-- ==== Sys2Proof/Word.lean ====
section
/-! DEFINITION. The word types of the FCU (00_scope.md R7, R8, R9). -/

namespace Sys2Proof

/-- A byte: 8 bits, unsigned (R8). -/
abbrev Byte := BitVec 8

/-- A 16-bit field: the declared length, the CRC, the header's `len` and `group` (R7). -/
abbrev Word16 := BitVec 16

/-- A byte sequence (R9). -/
abbrev Bytes := List Byte

end Sys2Proof
end

