-- ==== Sys2Proof/Config.lean ====
section
/-! DEFINITION. What an implementation fixes (00_scope.md R6), the payload values of the parameter PAYLOAD_CODEC
(43_message_codec.md R186), and the free values: opaque constants of which nothing can be proved. -/

namespace Sys2Proof.Config

/-- Raw bytes of the checksummed buffer carried by the Start line: 1 + 90 (R6 `START_BUDGET`). -/
abbrev startBudget : Nat := 91

/-- Raw bytes of the checksummed buffer carried by one Continuation line (R6 `CONT_BUDGET`). -/
abbrev contBudget : Nat := 93

/-- Message header length (R6 `HDR_LEN`). -/
abbrev hdrLen : Nat := 8

/-- Data bytes of segment 0 (R6 `SEG0_DATA`). -/
abbrev seg0Data : Nat := 32

/-- Least legal `CHUNK_CFG` (10_state.md R22). -/
abbrev chunkMin : Nat := 64

/-- Greatest legal `CHUNK_CFG` (10_state.md R22). -/
abbrev chunkMax : Nat := 2048

/-- Longest message the encoder takes (41_frame_encoder.md R130). -/
abbrev maxMessage : Nat := 65533

/-- Longest payload the header's `len` field can give (30_encoding.md R78). -/
abbrev maxPayload : Nat := 65535

/-- Default `CRC_INIT` (R6). -/
abbrev crcInitDefault : Word16 := 0x0000

/-- A key of a payload map: the UTF-8 bytes of the text string (R181). DEDUCED, log 22; safe. -/
abbrev Key := Bytes

/-- A value the FCU hands to `PAYLOAD_CODEC.enc` (R181). -/
inductive Value where
  | int (i : Int)
  | bytes (b : Bytes)
  | hdrEcho (h : Bytes)
  deriving DecidableEq, Repr

/-- A value the FCU receives from `PAYLOAD_CODEC.dec` (R186): an integer, or any value of another type. -/
inductive RValue where
  | int (i : Int)
  | other
  deriving DecidableEq, Repr

/-- Which pair of functions `PAYLOAD_CODEC` is (R29, R186): the CBOR test instance of 92_eei_decisions.md D15; the same
with some zero bytes after every encoded payload, so that a payload can be long; or any other pair, of which nothing is known
(log 7). The choice is plain data so that it can stand in the state. -/
inductive Codec where
  | cbor
  | padded (zeros : Nat)
  | given (n : Nat)
  deriving DecidableEq, Repr

/-- `enc` of the `n`-th unknown codec (R186: "The FCU assumes nothing of `enc` except that it is a function of its
argument"). Free: DESIGN CHOICE, log 7; safe. -/
opaque givenEnc : Nat → List (Key × Value) → Bytes

/-- `dec` of the `n`-th unknown codec (R186); `none` is `Err`. Free: DESIGN CHOICE, log 7; safe. -/
opaque givenDec : Nat → Bytes → Option (List (Key × RValue))

/-- What the CBOR test instance writes for the head of an integer or length of 2^64 or more, which 92 D15 does not
say. Free: DESIGN CHOICE, log 8; safe. -/
opaque cborHugeHead : Nat → Nat → Bytes

/-- `now`, "a value the environment supplies" (44_upload_engine.md R217), at the `k`-th draw. Free: DESIGN CHOICE,
log 9; safe. -/
opaque now : Nat → Nat

/-- How many bytes of a WRITE answered by WR_ERR had reached the device, at the `k`-th draw (93 U6: any number, cut at the
length of the WRITE). Free: DESIGN CHOICE, log 10; safe. -/
opaque deliveredCount : Nat → Nat

end Sys2Proof.Config
end

