-- ==== Sys2Proof/Syntax.lean ====
section
/-! DEFINITION. The instructions: one constructor per row of spec/opcode_table.json, and the records their operands
are made of. -/

namespace Sys2Proof

/-- The failure causes of 60_exceptions.md R250. -/
inductive FailCause where
  | none | transportWrite | transportRead | integrity | decode | rejected | overrun | retryExhausted
  deriving DecidableEq, Repr

/-- The transfer outcome of 10_state.md R44: `success` is 0, `failure` is 1. -/
inductive ResultCode where
  | success | failure
  deriving DecidableEq, Repr

/-- The fields of a received message's header other than `op` (30_encoding.md R75). -/
structure Header where
  res : BitVec 5
  flags : BitVec 8
  len : Word16
  group : Word16
  seq : BitVec 8
  id : BitVec 8
  deriving DecidableEq, Repr

/-- The instructions of the FCU: "the block's operations take the place of instructions" (00_scope.md R3). -/
inductive Instr where
  /-- `START`, event 0x01 (44_upload_engine.md R210). `maxRetries = none` is UNBOUNDED. -/
  | start (size : Nat) (img : Bytes) (chunkCfg tFirst tNext : Nat) (crcInit : Word16) (maxRetries : Option Nat)
      (strictOff : Bool)
  /-- `WR_OK`, event 0x10 (R215, R216). -/
  | wrOk
  /-- `WR_ERR`, event 0x11 (R215). -/
  | wrErr
  /-- `RD_DATA`, event 0x20 (R218). -/
  | rdData (bs : Bytes)
  /-- `RD_TIMEOUT`, event 0x21 (R219). -/
  | rdTimeout
  /-- `RD_ERR`, event 0x22 (R220). -/
  | rdErr
  /-- `WRITE`, event 0x80 (R222). -/
  | write (bs : Bytes)
  /-- `READ`, event 0x81 (R223). -/
  | read (deadline : Nat)
  /-- `PROGRESS`, event 0x82 (60_exceptions.md R262). -/
  | progress (offset : Int)
  /-- `RESULT`, event 0x83 (R271). -/
  | result (code : ResultCode) (cause : FailCause) (info : Int)
  /-- A received Start line: its text after the marker (42_frame_decoder.md R157). -/
  | lineStart (text : Bytes)
  /-- A received Continuation line: its text after the marker (R158, R159). -/
  | lineCont (text : Bytes)
  /-- A received line of at most 2 bytes (R154). -/
  | lineNoise (line : Bytes)
  /-- A received line with another marker (R156). -/
  | lineOther (marker : Word16) (rest : Bytes)
  /-- A received message with `op` = 1 (43_message_codec.md R190). -/
  | msgReadResponse (hdr : Header) (payload : Bytes)
  /-- A received message with `op` = 3 (R190). -/
  | msgWriteResponse (hdr : Header) (payload : Bytes)
  /-- A received message that is no response (R190, 42_frame_decoder.md R163). -/
  | msgNonresponse (msg : Bytes)
  /-- `ReqEcho(e)` (43_message_codec.md R183). -/
  | reqEchoCtrl (flag : Int)
  /-- `ReqReset()` (R183). -/
  | reqReset
  /-- `ReqSeg0(S, d)` (R184). -/
  | reqUploadSeg0 (size : Nat) (data : Bytes)
  /-- `ReqSegN(o, d)` (R185). -/
  | reqUploadSegN (offset : Nat) (data : Bytes)
  deriving DecidableEq, Repr

/-- The encodings an instruction is read from: a port event (30_encoding.md R86), a received wire line (R70), a received
message (R75), or a request-builder call (R77). -/
inductive Layer where
  | event | line | message | request
  deriving DecidableEq, Repr

/-- Why bytes are no instruction. -/
inductive DecodeError where
  /-- The bytes end inside an instruction. -/
  | truncated
  /-- The first byte is no event code of 30_encoding.md R86. -/
  | unknownEvent
  /-- The header's selectors name no request of R77. -/
  | unknownRequest
  /-- An operand byte has no meaning (a flag or code outside its values). -/
  | badOperand
  deriving DecidableEq, Repr

/-- The layer each instruction belongs to. -/
def Instr.layer : Instr → Layer
  | .start .. | .wrOk | .wrErr | .rdData _ | .rdTimeout | .rdErr => .event
  | .write _ | .read _ | .progress _ | .result .. => .event
  | .lineStart _ | .lineCont _ | .lineNoise _ | .lineOther .. => .line
  | .msgReadResponse .. | .msgWriteResponse .. | .msgNonresponse _ => .message
  | .reqEchoCtrl _ | .reqReset | .reqUploadSeg0 .. | .reqUploadSegN .. => .request

end Sys2Proof
end

