-- ==== Sys2Proof/Machine/Operands.lean ====
section
/-! DEFINITION. Operand assembly (30_encoding.md R83, R84; 00_scope.md R9): big-endian fields, slices, line extraction, and
the byte layout the model gives to event and call operands (log 3, 4). -/

namespace Sys2Proof.Machine

/-- The line terminator (30_encoding.md R70). -/
def newline : Byte := 0x0A

/-- The 3-bit opcode of a message's first byte (30_encoding.md R75, R84). -/
def opOf (b : Byte) : BitVec 3 := b.extractLsb' 0 3

/-- `IsResponse` on the bytes of a message (43_message_codec.md R190). -/
def isResponse (msg : Bytes) : Bool :=
  match msg with
  | b :: rest => decide (8 ≤ (b :: rest).length) && (opOf b == 1 || opOf b == 3)
  | [] => false

/-- `be16(v)` (00_scope.md R9). -/
def be16 (v : Word16) : Bytes := [v.extractLsb' 8 8, v.extractLsb' 0 8]

/-- `be16` of a natural number below 2^16. -/
def be16Nat (n : Nat) : Bytes := be16 (BitVec.ofNat 16 n)

/-- `rd_be16(a, i)` (R9, R84); a byte beyond the end counts as 0, which no caller reads. -/
def rdBe16 (a : Bytes) (i : Nat) : Nat := (a.getD i 0).toNat * 256 + (a.getD (i + 1) 0).toNat

/-- The half-open slice `a[i:j)` (R9). -/
def slice (a : Bytes) (i j : Nat) : Bytes := (a.drop i).take (j - i)

/-- The first line of a byte sequence, its newline excluded, and what follows the newline; `none` where there is no
newline (42_frame_decoder.md R153). -/
def splitLine : Bytes → Option (Bytes × Bytes)
  | [] => none
  | b :: bs =>
    if b = newline then some ([], bs)
    else match splitLine bs with
      | none => none
      | some (line, rest) => some (b :: line, rest)

/-- A natural number as 7-bit groups, least significant first, every group but the last with its top bit set.
DESIGN CHOICE, log 3; safe. -/
def natBytesFuel : Nat → Nat → Bytes
  | 0, n => [BitVec.ofNat 8 n]
  | fuel + 1, n =>
    if n < 128 then [BitVec.ofNat 8 n] else BitVec.ofNat 8 (n % 128 + 128) :: natBytesFuel fuel (n / 128)

/-- A natural number as an operand. DESIGN CHOICE, log 3; safe. -/
def natBytes (n : Nat) : Bytes := natBytesFuel n n

/-- Read a natural number written by `natBytes`. -/
def takeNat : Bytes → Except DecodeError (Nat × Bytes)
  | [] => .error .truncated
  | b :: bs =>
    if b.toNat < 128 then .ok (b.toNat, bs)
    else match takeNat bs with
      | .error e => .error e
      | .ok (v, rest) => .ok (b.toNat - 128 + 128 * v, rest)

/-- A byte sequence as an operand: its length, then its bytes. DESIGN CHOICE, log 3; safe. -/
def seqBytes (b : Bytes) : Bytes := natBytes b.length ++ b

/-- Read a byte sequence written by `seqBytes`. -/
def takeSeq (bs : Bytes) : Except DecodeError (Bytes × Bytes) :=
  match takeNat bs with
  | .error e => .error e
  | .ok (n, rest) => if n ≤ rest.length then .ok (rest.take n, rest.drop n) else .error .truncated

/-- An integer as a natural number: 0, -1, 1, -2, 2, … -/
def zigzag : Int → Nat
  | .ofNat n => 2 * n
  | .negSucc n => 2 * n + 1

/-- The integer of a natural number written by `zigzag`. -/
def unzigzag (n : Nat) : Int := if n % 2 = 0 then .ofNat (n / 2) else .negSucc (n / 2)

/-- Read an integer operand. -/
def takeInt (bs : Bytes) : Except DecodeError (Int × Bytes) :=
  match takeNat bs with
  | .error e => .error e
  | .ok (n, rest) => .ok (unzigzag n, rest)

/-- Read one byte. -/
def takeByte : Bytes → Except DecodeError (Byte × Bytes)
  | [] => .error .truncated
  | b :: bs => .ok (b, bs)

/-- Read a 16-bit big-endian operand. -/
def takeWord16 : Bytes → Except DecodeError (Word16 × Bytes)
  | a :: b :: rest => .ok (a ++ b, rest)
  | _ => .error .truncated

/-- `MAX_RETRIES` as an operand: 0 is UNBOUNDED, k + 1 is the bound k. -/
def retriesNat : Option Nat → Nat
  | none => 0
  | some k => k + 1

/-- The bound a `retriesNat` stands for. -/
def natRetries : Nat → Option Nat
  | 0 => none
  | k + 1 => some k

/-- A one-bit operand. -/
def flagByte (b : Bool) : Byte := if b then 1 else 0

/-- Read a one-bit operand: 0 or 1. -/
def takeFlag (bs : Bytes) : Except DecodeError (Bool × Bytes) :=
  match takeByte bs with
  | .error e => .error e
  | .ok (b, rest) => if b = 0 then .ok (false, rest) else if b = 1 then .ok (true, rest) else .error .badOperand

/-- The codes of `FAIL_CAUSE` (60_exceptions.md R250). -/
def causeCode : FailCause → Byte
  | .none => 0 | .transportWrite => 1 | .transportRead => 2 | .integrity => 3
  | .decode => 4 | .rejected => 5 | .overrun => 6 | .retryExhausted => 7

/-- The cause a code stands for. -/
def codeCause (b : Byte) : Option FailCause :=
  match b.toNat with
  | 0 => some .none | 1 => some .transportWrite | 2 => some .transportRead | 3 => some .integrity
  | 4 => some .decode | 5 => some .rejected | 6 => some .overrun | 7 => some .retryExhausted
  | _ => none

/-- Read a cause code. -/
def takeCause (bs : Bytes) : Except DecodeError (FailCause × Bytes) :=
  match takeByte bs with
  | .error e => .error e
  | .ok (b, rest) => match codeCause b with
    | none => .error .badOperand
    | some c => .ok (c, rest)

/-- `RESULT` as 0 or 1 (10_state.md R44). -/
def resultByte : ResultCode → Byte
  | .success => 0
  | .failure => 1

/-- Read a result code. -/
def takeResult (bs : Bytes) : Except DecodeError (ResultCode × Bytes) :=
  match takeByte bs with
  | .error e => .error e
  | .ok (b, rest) => if b = 0 then .ok (.success, rest) else if b = 1 then .ok (.failure, rest) else .error .badOperand

/-- The 8 bytes of a message header with opcode `op` (30_encoding.md R75): `op` in bits 2:0 of byte 0, `res` in bits
7:3, then `flags`, `len`, `group` (big-endian), `seq`, `id`. -/
def headerBytes (op : BitVec 3) (h : Header) : Bytes :=
  (h.res ++ op) :: h.flags :: (be16 h.len ++ be16 h.group ++ [h.seq, h.id])

end Sys2Proof.Machine
end

