-- ==== Sys2Proof/WellFormed.lean ====
section
/-! DEFINITION. Which instructions are well formed: the conditions the opcode table puts on their operands. -/

namespace Sys2Proof

open Sys2Proof.Machine

/-- The conditions of the opcode table on an instruction's operands: `len(IMG) = S` (R210); RESULT(0) carries no
failure and RESULT(1) a cause (60_exceptions.md R271); a line holds no newline, and its length and marker are those of its
class (30_encoding.md R80); a non-response is no response (R190); `off > 0` in an upload segment N (43 R185). -/
def Instr.wellFormed : Instr → Bool
  | .start size img .. => img.length == size
  | .result .success cause info => cause == .none && info == 0
  | .result .failure cause _ => cause != .none
  | .lineStart text => !text.isEmpty && !text.contains newline
  | .lineCont text => !text.isEmpty && !text.contains newline
  | .lineNoise line => decide (line.length ≤ 2) && !line.contains newline
  | .lineOther marker rest =>
      !rest.isEmpty && !rest.contains newline && marker != 0x0609 && marker != 0x0414
        && marker.extractLsb' 8 8 != newline && marker.extractLsb' 0 8 != newline
  | .msgNonresponse msg => !isResponse msg
  | .reqUploadSegN offset _ => decide (0 < offset)
  | .wrOk | .wrErr | .rdData _ | .rdTimeout | .rdErr | .write _ | .read _ | .progress _ => true
  | .msgReadResponse .. | .msgWriteResponse .. | .reqEchoCtrl _ | .reqReset | .reqUploadSeg0 .. => true

end Sys2Proof
end

