-- ==== Sys2Proof/Decode.lean ====
section
/-! DEFINITION. The decoder of the four encoding layers (30_encoding.md) and, after it, the encoder. -/

namespace Sys2Proof

open Sys2Proof.Machine

/-- Read one port event: a code byte of R86, then its arguments (their byte layout: DESIGN CHOICE, log 3; safe). -/
def decodeEvent (bytes : Bytes) : Except DecodeError (Instr × Bytes) := do
  let (code, r) ← takeByte bytes
  match code.toNat with
  | 0x01 =>
    let (size, r) ← takeNat r
    let (img, r) ← takeSeq r
    let (chunkCfg, r) ← takeNat r
    let (tFirst, r) ← takeNat r
    let (tNext, r) ← takeNat r
    let (crcInit, r) ← takeWord16 r
    let (retries, r) ← takeNat r
    let (strictOff, r) ← takeFlag r
    .ok (.start size img chunkCfg tFirst tNext crcInit (natRetries retries) strictOff, r)
  | 0x10 => .ok (.wrOk, r)
  | 0x11 => .ok (.wrErr, r)
  | 0x20 =>
    let (bs, r) ← takeSeq r
    .ok (.rdData bs, r)
  | 0x21 => .ok (.rdTimeout, r)
  | 0x22 => .ok (.rdErr, r)
  | 0x80 =>
    let (bs, r) ← takeSeq r
    .ok (.write bs, r)
  | 0x81 =>
    let (deadline, r) ← takeNat r
    .ok (.read deadline, r)
  | 0x82 =>
    let (offset, r) ← takeInt r
    .ok (.progress offset, r)
  | 0x83 =>
    let (code, r) ← takeResult r
    let (cause, r) ← takeCause r
    let (info, r) ← takeInt r
    .ok (.result code cause info, r)
  | _ => .error .unknownEvent

/-- Classify one received line, its newline excluded (30_encoding.md R80, 42_frame_decoder.md R154, R155). -/
def decodeLine (line : Bytes) : Instr :=
  match line with
  | m0 :: m1 :: t :: ts =>
    if m0 = 0x06 ∧ m1 = 0x09 then .lineStart (t :: ts)
    else if m0 = 0x04 ∧ m1 = 0x14 then .lineCont (t :: ts)
    else .lineOther (m0 ++ m1) (t :: ts)
  | short => .lineNoise short

/-- Classify one received message (43_message_codec.md R190; the header's fields by 30_encoding.md R75). -/
def decodeMessage (msg : Bytes) : Instr :=
  match msg with
  | b0 :: b1 :: b2 :: b3 :: b4 :: b5 :: b6 :: b7 :: payload =>
    let hdr : Header :=
      { res := b0.extractLsb' 3 5, flags := b1, len := b2 ++ b3, group := b4 ++ b5, seq := b6, id := b7 }
    if opOf b0 = 1 then .msgReadResponse hdr payload
    else if opOf b0 = 3 then .msgWriteResponse hdr payload
    else .msgNonresponse msg
  | _ => .msgNonresponse msg

/-- Read one request-builder call: a header whose `op`, `group` and `id` select the request (30_encoding.md R77; the other
header bits are outside the table's mask), then the builder's operands (their byte layout: DESIGN CHOICE, log 4; safe).
The two upload requests are told apart by `off` (R77: "the payload does"). -/
def decodeRequest (bytes : Bytes) : Except DecodeError (Instr × Bytes) :=
  match bytes with
  | b0 :: _ :: _ :: _ :: g1 :: g0 :: _ :: id :: r =>
    if opOf b0 ≠ 2 then .error .unknownRequest
    else match (g1 ++ g0 : Word16).toNat, id.toNat with
      | 0, 1 => do
        let (flag, r) ← takeInt r
        .ok (.reqEchoCtrl flag, r)
      | 0, 5 => .ok (.reqReset, r)
      | 1, 1 => do
        let (offset, r) ← takeNat r
        if offset = 0 then
          let (size, r) ← takeNat r
          let (data, r) ← takeSeq r
          .ok (.reqUploadSeg0 size data, r)
        else
          let (data, r) ← takeSeq r
          .ok (.reqUploadSegN offset data, r)
      | _, _ => .error .unknownRequest
  | _ => .error .truncated

/-- Read one instruction of a layer from bytes, and answer it with the bytes after it. A received message takes all its bytes:
its end is the decoder's declared length, not a byte of its own (30_encoding.md R83). -/
def decode : Layer → Bytes → Except DecodeError (Instr × Bytes)
  | .event, bs => decodeEvent bs
  | .line, bs => match splitLine bs with
    | none => .error .truncated
    | some (line, rest) => .ok (decodeLine line, rest)
  | .message, bs => .ok (decodeMessage bs, [])
  | .request, bs => decodeRequest bs

/-- The header of a request-builder call: op = 2, the selectors of 30_encoding.md R77, every other bit 0. -/
def requestSelector (group : Word16) (id : Byte) : Bytes := headerBytes 2 ⟨0, 0, 0, group, 0, id⟩

/-- The bytes of an instruction, in its layer. -/
def encode : Instr → Bytes
  | .start size img chunkCfg tFirst tNext crcInit maxRetries strictOff =>
      0x01 :: (natBytes size ++ seqBytes img ++ natBytes chunkCfg ++ natBytes tFirst ++ natBytes tNext ++ be16 crcInit
        ++ natBytes (retriesNat maxRetries) ++ [flagByte strictOff])
  | .wrOk => [0x10]
  | .wrErr => [0x11]
  | .rdData bs => 0x20 :: seqBytes bs
  | .rdTimeout => [0x21]
  | .rdErr => [0x22]
  | .write bs => 0x80 :: seqBytes bs
  | .read deadline => 0x81 :: natBytes deadline
  | .progress offset => 0x82 :: natBytes (zigzag offset)
  | .result code cause info => 0x83 :: resultByte code :: causeCode cause :: natBytes (zigzag info)
  | .lineStart text => 0x06 :: 0x09 :: (text ++ [newline])
  | .lineCont text => 0x04 :: 0x14 :: (text ++ [newline])
  | .lineNoise line => line ++ [newline]
  | .lineOther marker rest => be16 marker ++ rest ++ [newline]
  | .msgReadResponse hdr payload => headerBytes 1 hdr ++ payload
  | .msgWriteResponse hdr payload => headerBytes 3 hdr ++ payload
  | .msgNonresponse msg => msg
  | .reqEchoCtrl flag => requestSelector 0 1 ++ natBytes (zigzag flag)
  | .reqReset => requestSelector 0 5
  | .reqUploadSeg0 size data => requestSelector 1 1 ++ (natBytes 0 ++ natBytes size ++ seqBytes data)
  | .reqUploadSegN offset data => requestSelector 1 1 ++ (natBytes offset ++ seqBytes data)

/-- The low `n` bytes of `w`, most significant first. -/
def bytesBE : Nat → Nat → Bytes
  | 0, _ => []
  | n + 1, w => BitVec.ofNat 8 (w >>> (8 * n)) :: bytesBE n w

/-- Whether the opcode table's mask and match make a header a request (op 2 and a group and id of 30_encoding.md R77). -/
def isRequestHeader (hdr : Bytes) : Bool :=
  match decodeRequest (hdr ++ List.replicate 3 0) with
  | .ok _ => true
  | .error _ => false

/-- The layer and the bytes of a table word: 8 bits are an event code, 64 bits a big-endian header (a request where its
selectors say so, else a received message), up to 16 bits a line (a 16-bit big-endian marker, the one text byte of zeros that
makes it longer than noise, and the newline that the line format asks for). Operands are zeros. Other sizes are no row's. -/
def tableBytes (nbits w : Nat) : Option (Layer × Bytes) :=
  match nbits with
  | 0 => some (.line, [newline])
  | 8 => some (.event, BitVec.ofNat 8 w :: List.replicate 10 0)
  | 16 => some (.line, be16Nat w ++ [0, newline])
  | 64 =>
    let hdr := bytesBE 8 w
    if isRequestHeader hdr then some (.request, hdr ++ List.replicate 3 0) else some (.message, hdr)
  | _ => none

/-- The instruction the decoder reads from a word numbered as spec/opcode_table.json numbers it, its operands zeros. -/
def decodeTableWord (nbits w : Nat) : Option Instr :=
  match tableBytes nbits w with
  | none => none
  | some (layer, bytes) => match decode layer bytes with
    | .ok (i, _) => some i
    | .error _ => none

end Sys2Proof
end

