-- ==== Sys2Proof/Machine/Cbor.lean ====
section
/-! DEFINITION. The CBOR test instance of PAYLOAD_CODEC (92_eei_decisions.md D15; not normative), and the choice between it
and an unknown codec (43_message_codec.md R186). What D15 does not say: DESIGN CHOICE, log 8; unsafe. -/

namespace Sys2Proof.Machine

/-- The low `k` bytes of `n`, most significant first. -/
def beBytes : Nat → Nat → Bytes
  | 0, _ => []
  | k + 1, n => BitVec.ofNat 8 (n >>> (8 * k)) :: beBytes k n

/-- The head of an item: its major type and its integer or length, in the shortest form (D15). -/
def cborHead (major n : Nat) : Bytes :=
  let first (ai : Nat) : Byte := BitVec.ofNat 8 (major * 32 + ai)
  if n < 24 then [first n]
  else if n < 2 ^ 8 then first 24 :: beBytes 1 n
  else if n < 2 ^ 16 then first 25 :: beBytes 2 n
  else if n < 2 ^ 32 then first 26 :: beBytes 4 n
  else if n < 2 ^ 64 then first 27 :: beBytes 8 n
  else Config.cborHugeHead major n

/-- A value: `Int` as major type 0 or 1, `Bytes` and `HdrEcho` as major type 2 (D15). -/
def cborValue : Config.Value → Bytes
  | .int (.ofNat n) => cborHead 0 n
  | .int (.negSucc n) => cborHead 1 n
  | .bytes b => cborHead 2 b.length ++ b
  | .hdrEcho h => cborHead 2 h.length ++ h

/-- One pair: a text-string key and its value. -/
def cborPair (kv : Config.Key × Config.Value) : Bytes := cborHead 3 kv.1.length ++ kv.1 ++ cborValue kv.2

/-- `enc`: a definite-length map (D15). -/
def cborEnc (kvs : List (Config.Key × Config.Value)) : Bytes := cborHead 5 kvs.length ++ kvs.flatMap cborPair

/-- The number in the first `k` bytes, most significant first. -/
def takeBE : Nat → Nat → Bytes → Option (Nat × Bytes)
  | 0, n, bs => some (n, bs)
  | _ + 1, _, [] => none
  | k + 1, n, b :: bs => takeBE k (n * 256 + b.toNat) bs

/-- Read an item's head: major type, integer or length, and the bytes after it; `none` for an indefinite length or a
reserved form. -/
def takeHead : Bytes → Option (Nat × Nat × Bytes)
  | [] => none
  | b :: bs =>
    let major := b.toNat / 32
    let ai := b.toNat % 32
    let width := if ai = 24 then 1 else if ai = 25 then 2 else if ai = 26 then 4 else 8
    if ai < 24 then some (major, ai, bs)
    else if ai < 28 then (takeBE width 0 bs).map fun (n, r) => (major, n, r)
    else none

/-- Read a value: types 0 and 1 are integers, 2 and 3 are `Other`, "anything else is `Err`" (D15). A string of major type 3 is
taken whatever its bytes, valid UTF-8 or not: DESIGN CHOICE, log 8; unsafe. -/
def takeRValue (bs : Bytes) : Option (Config.RValue × Bytes) :=
  match takeHead bs with
  | some (0, n, r) => some (.int (.ofNat n), r)
  | some (1, n, r) => some (.int (.negSucc n), r)
  | some (2, n, r) => if n ≤ r.length then some (.other, r.drop n) else none
  | some (3, n, r) => if n ≤ r.length then some (.other, r.drop n) else none
  | _ => none

/-- Read `n` pairs. A key is any string of major type 3; D15 wants "text keys" and does not say whether one with invalid UTF-8 is
a text, and the model takes it: DESIGN CHOICE, log 8; unsafe. -/
def takePairs : Nat → Bytes → Option (List (Config.Key × Config.RValue) × Bytes)
  | 0, bs => some ([], bs)
  | n + 1, bs =>
    match takeHead bs with
    | some (3, k, r) =>
      if k ≤ r.length then
        match takeRValue (r.drop k) with
        | some (v, r') => match takePairs n r' with
          | some (kvs, r'') => some ((r.take k, v) :: kvs, r'')
          | none => none
        | none => none
      else none
    | _ => none

/-- `dec`: "a single definite-length map with text keys that consumes every byte" (D15). -/
def cborDec (bs : Bytes) : Option (List (Config.Key × Config.RValue)) :=
  match takeHead bs with
  | some (5, n, r) => match takePairs n r with
    | some (kvs, []) => some kvs
    | _ => none
  | _ => none

/-- `PAYLOAD_CODEC.enc` (R186). -/
def encPayload : Config.Codec → List (Config.Key × Config.Value) → Bytes
  | .cbor => cborEnc
  | .padded zeros => fun kvs => cborEnc kvs ++ List.replicate zeros 0
  | .given n => Config.givenEnc n

/-- `PAYLOAD_CODEC.dec` (R186). -/
def decPayload : Config.Codec → Bytes → Option (List (Config.Key × Config.RValue))
  | .cbor | .padded _ => cborDec
  | .given n => Config.givenDec n

end Sys2Proof.Machine
end

