-- ==== Sys2Proof/Machine/State.lean ====
section
/-! DEFINITION. The state of the FCU (10_state.md), its value after power-on reset (R46, R280), and the reasons a step
stops. -/

namespace Sys2Proof.Machine

/-- The engine states of 10_state.md R30. -/
inductive EngineState where
  | idle | prepareFirst | sendAndPrepareNext | awaitAck | retransmit | advance | done | failed
  deriving DecidableEq, Repr

/-- `kind` of a segment (10_state.md R32). -/
inductive SegKind where
  | seg0 | segN
  deriving DecidableEq, Repr

/-- A segment record (10_state.md R32). -/
structure Segment where
  off : Nat
  len : Nat
  kind : SegKind
  deriving DecidableEq, Repr

/-- The active timeout class (10_state.md R35). -/
inductive TimeoutClass where
  | first | next
  deriving DecidableEq, Repr

/-- The reassembly state (10_state.md R38). -/
inductive Rsm where
  | idle
  | collect (decl : Word16) (rbuf : Bytes)
  deriving DecidableEq, Repr

/-- An output event of the port (30_encoding.md R86). -/
inductive OutEvent where
  | write (bs : Bytes)
  | read (deadline : Nat)
  | progress (offset : Int)
  | result (code : ResultCode) (cause : FailCause) (info : Int)
  deriving DecidableEq, Repr

/-- The transport operation that waits for its one answer (44_upload_engine.md R222, R223). -/
inductive PortCall where
  | write | read
  deriving DecidableEq, Repr

/-- How far `DecPoll` is (42_frame_decoder.md R153–R164): not running, looking for the next line, or holding a message
that passed the CRC check and whose response test (R163) comes next. DESIGN CHOICE, log 1; safe. -/
inductive Scan where
  | off
  | lines
  | message (msg : Bytes)
  deriving DecidableEq, Repr

/-- The FCU's registers (10_state.md R21–R44) and the parameter PAYLOAD_CODEC (R29); after them the model's own fields. -/
structure State where
  /-- `S` (R21). -/
  size : Nat
  /-- `IMG` (R21, 20_memory.md R50): the non-zero bytes by offset, strictly rising. -/
  img : List Host.Cell
  /-- `CHUNK_CFG` (R22). -/
  chunkCfg : Nat
  /-- `EFF_CHUNK` (R23). -/
  effChunk : Nat
  /-- `T_FIRST` (R24). -/
  tFirst : Nat
  /-- `T_NEXT` (R24). -/
  tNext : Nat
  /-- `CRC_INIT` (R25). -/
  crcInit : Word16
  /-- `MAX_RETRIES` (R26): `none` is UNBOUNDED. -/
  maxRetries : Option Nat
  /-- `STRICT_OFF` (R27). -/
  strictOff : Bool
  /-- `STATE` (R30). -/
  engine : EngineState
  /-- `OFF` (R31). -/
  off : Nat
  /-- `CUR` (R32). -/
  cur : Segment
  /-- `NEXT` (R33). -/
  next : Option Segment
  /-- `FAIL_CAUSE` (R34). -/
  failCause : FailCause
  /-- `FAIL_INFO` (R34). -/
  failInfo : Int
  /-- `TMO` (R35). -/
  tmo : TimeoutClass
  /-- `DEADLINE` (R35). -/
  deadline : Nat
  /-- `ACC` (R36). -/
  acc : Bytes
  /-- `FRESH` (R37). -/
  fresh : Bool
  /-- `RSM` (R38). -/
  rsm : Rsm
  /-- `SEQ` (R39). -/
  seq : BitVec 8
  /-- `RETRY` (R40). -/
  retry : Nat
  /-- `ACK` (R41). -/
  ack : Int
  /-- `RC` (R41). -/
  rc : Int
  /-- `CUR_LINES` (R42). -/
  curLines : Bytes
  /-- `NEXT_LINES` (R43). -/
  nextLines : Option Bytes
  /-- `RESULT` (R44). -/
  result : Option ResultCode
  /-- `PAYLOAD_CODEC` (R29): a parameter, which no step writes. -/
  codec : Config.Codec
  /-- The model's own: input events in store, as bytes (log 2). -/
  port : Bytes
  /-- The model's own: input events, as bytes, that the environment gives over and over once none is in store (log 26). -/
  standing : Bytes
  /-- The model's own: request-builder calls in store, as bytes (log 4). -/
  calls : Bytes
  /-- The model's own: output events emitted and not yet sent (log 1). -/
  emits : List OutEvent
  /-- The model's own: output events sent since power-on (log 11). -/
  out : List OutEvent
  /-- The model's own: bytes delivered to the device since power-on (log 11). -/
  wire : Bytes
  /-- The model's own: the transport operation that waits for its answer (log 1). -/
  outstanding : Option PortCall
  /-- The model's own: how far `DecPoll` is (log 1). -/
  scan : Scan
  /-- The model's own: the message the last request-builder call returned (log 4). -/
  built : Option Bytes
  /-- The model's own: how many free values have been drawn (log 9). -/
  draws : Nat
  /-- The model's own: the environment asserts power-on reset (log 12). -/
  resetLine : Bool
  deriving DecidableEq, Repr

/-- The machine right after power-on reset (10_state.md R46, 70_reset_and_hazards.md R280). The registers R46 calls
unspecified hold the values of log 5 and log 6, the parameter `codec` that of log 7 (DESIGN CHOICE; unsafe). -/
def State.reset : State where
  size := 0
  img := []
  chunkCfg := 0
  effChunk := 0
  tFirst := 0
  tNext := 0
  crcInit := Config.crcInitDefault
  maxRetries := none
  strictOff := false
  engine := .idle
  off := 0
  cur := ⟨0, 0, .seg0⟩
  next := none
  failCause := .none
  failInfo := 0
  tmo := .first
  deadline := 0
  acc := []
  fresh := true
  rsm := .idle
  seq := 0
  retry := 0
  ack := 0
  rc := 0
  curLines := []
  nextLines := none
  result := none
  codec := .cbor
  port := []
  standing := []
  calls := []
  emits := []
  out := []
  wire := []
  outstanding := none
  scan := .off
  built := none
  draws := 0
  resetLine := false

/-- The faults of 60_exceptions.md R257: programming errors. "A faulted FCU has no further step, emits no `RESULT`". -/
inductive Fault where
  /-- `START` with `CHUNK_CFG` outside 64..2048; raised by START. Safe: the spec's own fault. -/
  | configRange
  /-- A message over 65533 bytes or a payload over 65535 bytes; raised by request building and encoding. Safe: the spec's own
  fault. -/
  | encodeRange
  /-- A `MemRead` beyond `S`; raised by segment building. Safe: the spec's own fault. -/
  | imageRange
  /-- An empty continuation chunk; raised by the encoder's Continuation line. Safe: the spec's own fault, which the encoder never
  meets. -/
  | emptyChunk
  deriving DecidableEq, Repr

/-- Why a step is refused: the spec admits no transition there. -/
inductive Refusal where
  /-- An instruction without a meaning; raised by `exec` alone. Safe: the run stops. -/
  | notModelled (mnemonic : String)
  /-- A `START` while a transfer is in progress (44_upload_engine.md R210, 93 U15); raised by START. Safe. -/
  | startInTransfer
  /-- A `START` whose `IMG` is not `S` bytes long (R210: "with `len(IMG) = S`"); raised by START. Safe. -/
  | imageSizeMismatch
  /-- An answer that no outstanding WRITE or READ asks for (30_encoding.md R86, 93 U16); raised by WR_OK, WR_ERR, RD_DATA,
  RD_TIMEOUT, RD_ERR. Safe. -/
  | unexpectedAnswer
  /-- An event whose direction is out, offered at the input port (30_encoding.md R86); raised by the step. Safe. -/
  | outputAtInput
  /-- Bytes at the input port or of a call that are no instruction; raised by the step. Safe. -/
  | undecodable (e : DecodeError)
  /-- No event to consume: "stuck when the environment never answers" (70_reset_and_hazards.md R292, 93 U18); raised by the
  step. Safe. -/
  | awaitingEvent
  /-- Advance with no prepared segment, which 44_upload_engine.md R232 says cannot be; raised by the step. Safe. -/
  | advanceWithoutNext
  deriving DecidableEq, Repr

/-- The outcome of a step of this machine. -/
abbrev Outcome := Host.Outcome State Fault Refusal

end Sys2Proof.Machine
end

