-- ==== Sys2Proof/Machine/Ops.lean ====
section
/-! DEFINITION. The shared operations over the image, the ports and the registers: image reads (00_scope.md R11), emission
(R12), `raise Failure` (60_exceptions.md R251), Done, and power-on reset. -/

namespace Sys2Proof.Machine

/-- What an unlisted image offset reads as: a listed cell is a non-zero byte, so 0 (log 18). -/
abbrev Memory.unlisted : Byte := 0

/-- The byte at an offset of the image (20_memory.md R50). -/
def Memory.read : List Host.Cell → Nat → Byte
  | [], _ => Memory.unlisted
  | (k, v) :: rest, a => if k = a then v else Memory.read rest a

/-- The cells of the bytes `bs` from offset `a` on, in canonical form. -/
def Memory.cellsFrom : Nat → Bytes → List Host.Cell
  | _, [] => []
  | a, b :: bs =>
    if b = Memory.unlisted then Memory.cellsFrom (a + 1) bs else (a, b) :: Memory.cellsFrom (a + 1) bs

/-- The image START loads (44_upload_engine.md R210). -/
def Memory.ofBytes (bs : Bytes) : List Host.Cell := Memory.cellsFrom 0 bs

/-- The canonical form from offset `lo` on: offsets strictly rising, no listed byte equal to what an unlisted offset
reads as. -/
def Memory.wfFrom : Nat → List Host.Cell → Bool
  | _, [] => true
  | lo, (k, v) :: rest => decide (lo ≤ k) && v != Memory.unlisted && Memory.wfFrom (k + 1) rest

/-- The canonical form of an image. -/
def Memory.wf (m : List Host.Cell) : Bool := Memory.wfFrom 0 m

/-- The `n` image bytes from offset `a` on. -/
def Memory.readRange (m : List Host.Cell) (a n : Nat) : Bytes := (List.range n).map fun k => Memory.read m (a + k)

/-- `MemRead(addr, n)` (00_scope.md R11): "requires `addr + n <= S` and otherwise raises the fault `ImageRange`". -/
def memRead (addr n : Nat) (s : State) : Except Fault Bytes :=
  if addr + n ≤ s.size then .ok (Memory.readRange s.img addr n) else .error .imageRange

/-- `emit E` (00_scope.md R12): the event goes out at the port in its turn (log 1). -/
def emit (e : OutEvent) (s : State) : State := { s with emits := s.emits ++ [e] }

/-- `raise Failure(c, i)` (60_exceptions.md R251) and the Failed step (44_upload_engine.md R227): FAIL_CAUSE, FAIL_INFO,
STATE and RESULT are written and RESULT is emitted. "It changes no other register". No answer and no received line is
awaited any more. -/
def raiseFailure (c : FailCause) (i : Int) (s : State) : State :=
  emit (.result .failure c i)
    { s with failCause := c, failInfo := i, engine := .failed, result := some .failure, outstanding := none, scan := .off }

/-- The sub-causes of `INTEGRITY` (60_exceptions.md R250). -/
inductive IntegritySub where
  | crc | malformed | length
  deriving DecidableEq, Repr

/-- The sub-cause codes of `INTEGRITY` (R250). -/
def integrityInfo : IntegritySub → Int
  | .crc => 1
  | .malformed => 2
  | .length => 3

/-- The sub-causes of `DECODE` (60_exceptions.md R250, 43_message_codec.md R194). -/
inductive DecodeSub where
  | truncated | notMap | type | noOff
  deriving DecidableEq, Repr

/-- The sub-cause codes of `DECODE` (R250). -/
def decodeInfo : DecodeSub → Int
  | .truncated => 1
  | .notMap => 2
  | .type => 3
  | .noOff => 4

/-- `raise Failure(INTEGRITY, sub)` (60_exceptions.md R254). -/
def integrityFailure (sub : IntegritySub) (s : State) : State := raiseFailure .integrity (integrityInfo sub) s

/-- `raise Failure(DECODE, sub)` (60_exceptions.md R255). -/
def decodeFailure (sub : DecodeSub) (s : State) : State := raiseFailure .decode (decodeInfo sub) s

/-- `pc <- Done` and the Done step (44_upload_engine.md R226): RESULT is 0 and RESULT(0) is emitted. -/
def enterDone (s : State) : State :=
  emit (.result .success .none 0) { s with engine := .done, result := some .success, outstanding := none, scan := .off }

/-- The codes of `STATE` (10_state.md R30). -/
def EngineState.code : EngineState → Nat
  | .idle => 0 | .prepareFirst => 1 | .sendAndPrepareNext => 2 | .awaitAck => 3
  | .retransmit => 4 | .advance => 5 | .done => 6 | .failed => 7

/-- Power-on reset (70_reset_and_hazards.md R280): every register at its power-on value, "without emitting `RESULT`". The
environment's stores, the free-value counter and the parameter PAYLOAD_CODEC stand (log 12). -/
def powerOnReset (s : State) : State :=
  { State.reset with port := s.port, standing := s.standing, calls := s.calls, draws := s.draws, codec := s.codec }

/-- `SEQ` after a header build: incremented mod 256 (43_message_codec.md R189). -/
def bumpSeq (s : State) : State := { s with seq := s.seq + 1 }

end Sys2Proof.Machine
end

