-- ==== Sys2Proof/Machine/Flags.lean ====
section
/-! DEFINITION. The flag FRESH and the registers it governs (10_state.md R36–R38, R47; 42_frame_decoder.md R150–R152). -/

namespace Sys2Proof.Machine

/-- `'\r'` or `'\n'`, the bytes dropped while FRESH is 1 (R152). -/
def isCrLf (b : Byte) : Bool := b == 0x0D || b == 0x0A

/-- One byte of `DecFeed` (R150): ACC and FRESH before it, ACC and FRESH after it. -/
def feedByte (accFresh : Bytes × Bool) (b : Byte) : Bytes × Bool :=
  if accFresh.2 && isCrLf b then accFresh else (accFresh.1 ++ [b], false)

/-- `DecFeed(bs)` (R150). -/
def decFeed (bs : Bytes) (s : State) : State :=
  let r := bs.foldl feedByte (s.acc, s.fresh)
  { s with acc := r.1, fresh := r.2 }

/-- A fresh accumulation (R151). -/
def freshAccumulation (s : State) : State := { s with acc := [], fresh := true, rsm := .idle }

end Sys2Proof.Machine
end

