-- ==== Sys2Proof/Machine/Primitives.lean ====
section
/-! DEFINITION. Codec primitives: CRC-16 and base64 (40_codec_primitives.md). -/

namespace Sys2Proof.Machine

/-- One bit of the CRC: shift left, and XOR the polynomial 0x1021 where bit 15 was 1 (R100). -/
def crcBit (c : Word16) : Word16 := if c.getLsbD 15 then (c <<< 1) ^^^ 0x1021 else c <<< 1

/-- `n` bits of the CRC (R100: "repeat 8 times"). -/
def crcBits : Nat → Word16 → Word16
  | 0, c => c
  | n + 1, c => crcBits n (crcBit c)

/-- One byte of the CRC: the byte enters bits 15:8 (R100). -/
def crcByte (c : Word16) (b : Byte) : Word16 := crcBits 8 (c ^^^ (b.zeroExtend 16 <<< 8))

/-- `CRC16(d)` with the initial value `init` (R100). -/
def crc16 (init : Word16) (d : Bytes) : Word16 := d.foldl crcByte init

/-- `Checksum(m)` (R101). -/
def checksum (init : Word16) (m : Bytes) : Bytes := m ++ be16 (crc16 init m)

/-- `CrcOk(buf)` (R102). -/
def crcOk (init : Word16) (buf : Bytes) : Bool :=
  (crc16 init (slice buf 0 (buf.length - 2))).toNat == rdBe16 buf (buf.length - 2)

/-- The alphabet symbol of a 6-bit value (R103). -/
def b64Sym (k : BitVec 6) : Byte :=
  let n := k.toNat
  if n < 26 then BitVec.ofNat 8 (65 + n)
  else if n < 52 then BitVec.ofNat 8 (97 + (n - 26))
  else if n < 62 then BitVec.ofNat 8 (48 + (n - 52))
  else if n = 62 then 0x2B else 0x2F

/-- The 6-bit value of an alphabet symbol (R103); `none` outside the alphabet, `'='` among it. -/
def b64Val (b : Byte) : Option (BitVec 6) :=
  let n := b.toNat
  if 65 ≤ n ∧ n ≤ 90 then some (BitVec.ofNat 6 (n - 65))
  else if 97 ≤ n ∧ n ≤ 122 then some (BitVec.ofNat 6 (n - 97 + 26))
  else if 48 ≤ n ∧ n ≤ 57 then some (BitVec.ofNat 6 (n - 48 + 52))
  else if n = 0x2B then some 62 else if n = 0x2F then some 63 else none

/-- The pad character `'='` (R103). -/
abbrev b64Pad : Byte := 0x3D

/-- The 24 bits of a quantum as four 6-bit groups, cut from the top (R104, 20_memory.md R55). -/
def quantumGroups (v : BitVec 24) : BitVec 6 × BitVec 6 × BitVec 6 × BitVec 6 :=
  (v.extractLsb' 18 6, v.extractLsb' 12 6, v.extractLsb' 6 6, v.extractLsb' 0 6)

/-- `B64Encode(d)` (R104). -/
def b64Encode : Bytes → Bytes
  | [] => []
  | [a] =>
    let (g0, g1, _, _) := quantumGroups (a ++ (0 : Byte) ++ (0 : Byte))
    [b64Sym g0, b64Sym g1, b64Pad, b64Pad]
  | [a, b] =>
    let (g0, g1, g2, _) := quantumGroups (a ++ b ++ (0 : Byte))
    [b64Sym g0, b64Sym g1, b64Sym g2, b64Pad]
  | a :: b :: c :: rest =>
    let (g0, g1, g2, g3) := quantumGroups (a ++ b ++ c)
    b64Sym g0 :: b64Sym g1 :: b64Sym g2 :: b64Sym g3 :: b64Encode rest

/-- The number of trailing `'='` of a quantum (R105 `p`). -/
def quantumPads (c0 c1 c2 c3 : Byte) : Nat :=
  if c3 ≠ b64Pad then 0 else if c2 ≠ b64Pad then 1 else if c1 ≠ b64Pad then 2 else if c0 ≠ b64Pad then 3 else 4

/-- The bytes of one quantum of text (R105): 3, 2 or 1 of them for 0, 1 or 2 pads. The bits that padding drops are ignored
(R106). -/
def quantumBytes (c0 c1 c2 c3 : Byte) : Option Bytes :=
  match quantumPads c0 c1 c2 c3, b64Val c0, b64Val c1, b64Val c2, b64Val c3 with
  | 0, some v0, some v1, some v2, some v3 =>
    let v : BitVec 24 := v0 ++ v1 ++ v2 ++ v3
    some [v.extractLsb' 16 8, v.extractLsb' 8 8, v.extractLsb' 0 8]
  | 1, some v0, some v1, some v2, _ =>
    let v : BitVec 24 := v0 ++ v1 ++ v2 ++ (0 : BitVec 6)
    some [v.extractLsb' 16 8, v.extractLsb' 8 8]
  | 2, some v0, some v1, _, _ =>
    let v : BitVec 24 := v0 ++ v1 ++ (0 : BitVec 6) ++ (0 : BitVec 6)
    some [v.extractLsb' 16 8]
  | _, _, _, _, _ => none

/-- `B64Decode(t)` (R105); `none` is `Err(MALFORMED)`. A quantum with padding is legal only as the last. -/
def b64Decode : Bytes → Option Bytes
  | [] => some []
  | c0 :: c1 :: c2 :: c3 :: rest =>
    if quantumPads c0 c1 c2 c3 ≠ 0 ∧ rest ≠ [] then none
    else match quantumBytes c0 c1 c2 c3, b64Decode rest with
      | some d, some ds => some (d ++ ds)
      | _, _ => none
  | _ => none

end Sys2Proof.Machine
end

