-- ==== Sys2Proof/Machine/Encoder.lean ====
section
/-! DEFINITION. The frame encoder (41_frame_encoder.md): a pure function of the message and `CRC_INIT`. -/

namespace Sys2Proof.Machine

/-- The Start line of a checksummed buffer (R132, R133; 30_encoding.md R71). -/
def startLine (buf : Bytes) : Bytes :=
  [0x06, 0x09] ++ b64Encode (be16Nat buf.length ++ buf.take Config.startBudget) ++ [newline]

/-- A Continuation line (R134; 30_encoding.md R72); an empty chunk is `Fault(EmptyChunk)`. -/
def contLine (chunk : Bytes) : Except Fault Bytes :=
  if chunk = [] then .error .emptyChunk else .ok ([0x04, 0x14] ++ b64Encode chunk ++ [newline])

/-- The Continuation lines of `rest` (R134): "while rest != []". `fuel` bounds the loop; the length of `rest` is enough. -/
def contLines : Nat → Bytes → Except Fault (List Bytes)
  | 0, _ => .ok []
  | fuel + 1, rest =>
    if rest = [] then .ok []
    else match contLine (rest.take Config.contBudget), contLines fuel (rest.drop Config.contBudget) with
      | .ok line, .ok lines => .ok (line :: lines)
      | .error f, _ => .error f
      | _, .error f => .error f

/-- `Encode(m)` (R130–R136): the lines of a message, in order. -/
def encodeMessage (init : Word16) (m : Bytes) : Except Fault (List Bytes) :=
  if m.length > Config.maxMessage then .error .encodeRange
  else
    let buf := checksum init m
    let rest := buf.drop Config.startBudget
    match contLines rest.length rest with
    | .error f => .error f
    | .ok lines => .ok (startLine buf :: lines)

end Sys2Proof.Machine
end

