-- ==== Sys2Proof/Machine/Requests.lean ====
section
/-! DEFINITION. The Message Codec's operations (43_message_codec.md): building a request and decoding a response. -/

namespace Sys2Proof.Machine

/-- The key `_h` (R187). -/
def keyHdr : Config.Key := [0x5F, 0x68]
/-- The key `echo` (R183). -/
def keyEcho : Config.Key := [0x65, 0x63, 0x68, 0x6F]
/-- The key `sha` (R184). -/
def keySha : Config.Key := [0x73, 0x68, 0x61]
/-- The key `off` (R184, R185, R192). -/
def keyOff : Config.Key := [0x6F, 0x66, 0x66]
/-- The key `len` (R184). -/
def keyLen : Config.Key := [0x6C, 0x65, 0x6E]
/-- The key `data` (R184, R185). -/
def keyData : Config.Key := [0x64, 0x61, 0x74, 0x61]
/-- The key `rc` (R192). -/
def keyRc : Config.Key := [0x72, 0x63]

/-- `BuildHeader(group, id)` (R180): op = WRITE (2), `res`, `flags` and `len` zero, SEQ in byte 6. -/
def buildHeader (seq : BitVec 8) (group : Word16) (id : Byte) : Bytes := headerBytes 2 ⟨0, 0, 0, group, seq, id⟩

/-- The length back-fill (R188): bytes 2..3 of the header become `be16(n)`. -/
def backFill (hdr : Bytes) (n : Nat) : Bytes := hdr.take 2 ++ be16Nat n ++ hdr.drop 4

/-- `BuildRequest(group, id, fields)` (R181, R187, R188) with the value `seq` of SEQ; the header echo comes first and carries
`len` = 0. -/
def buildRequest (codec : Config.Codec) (seq : BitVec 8) (group : Word16) (id : Byte)
    (fields : List (Config.Key × Config.Value)) : Except Fault Bytes :=
  let h := buildHeader seq group id
  let p := encPayload codec ((keyHdr, .hdrEcho h) :: fields)
  if p.length > Config.maxPayload then .error .encodeRange else .ok (backFill h p.length ++ p)

/-- The fields of `ReqEcho(e)` (R183). -/
def echoFields (flag : Int) : List (Config.Key × Config.Value) := [(keyEcho, .int flag)]

/-- The fields of `ReqSeg0(S, d)` (R184). -/
def seg0Fields (size : Nat) (data : Bytes) : List (Config.Key × Config.Value) :=
  [(keySha, .bytes []), (keyOff, .int 0), (keyLen, .int size), (keyData, .bytes data)]

/-- The fields of `ReqSegN(o, d)` (R185). -/
def segNFields (offset : Nat) (data : Bytes) : List (Config.Key × Config.Value) :=
  [(keyOff, .int offset), (keyData, .bytes data)]

/-- The last value of a key (R192: "its last occurrence counts"). -/
def lastValue (key : Config.Key) (kvs : List (Config.Key × Config.RValue)) : Option Config.RValue :=
  kvs.foldl (fun found kv => if kv.1 = key then some kv.2 else found) none

/-- `rc` and `off` of a decoded payload (R192, R193). -/
def responseFields (strictOff : Bool) (kvs : List (Config.Key × Config.RValue)) : Except DecodeSub (Int × Int) :=
  match (lastValue keyRc kvs).getD (.int 0), lastValue keyOff kvs with
  | .other, _ => .error .type
  | _, some .other => .error .type
  | .int rc, some (.int off) => .ok (rc, off)
  | .int rc, none => if strictOff then .error .noOff else .ok (rc, 0)

/-- `DecodeResponse(msg)` (R191–R193): `rc` and the acknowledged offset, or the decode error. -/
def decodeResponse (codec : Config.Codec) (strictOff : Bool) (msg : Bytes) : Except DecodeSub (Int × Int) :=
  if msg.length < Config.hdrLen then .error .truncated
  else match decPayload codec (msg.drop Config.hdrLen) with
    | none => .error .notMap
    | some kvs => responseFields strictOff kvs

end Sys2Proof.Machine
end

