-- ==== Sys2Proof/Machine/Engine.lean ====
section
/-! DEFINITION. The Upload Engine (44_upload_engine.md): its operations, its internal transitions, and the meanings of the input
events. -/

namespace Sys2Proof.Machine

/-- `EFF_CHUNK` of a `CHUNK_CFG` (R211). -/
def effChunkOf (chunkCfg : Nat) : Nat := chunkCfg * 3 / 4 - 16

/-- Segment 0 of an image of `size` bytes (R212). -/
def firstSegment (size : Nat) : Segment := ⟨0, min Config.seg0Data size, .seg0⟩

/-- `NextSegment(cur)` (R214). -/
def nextSegment (size effChunk : Nat) (cur : Segment) : Option Segment :=
  let o := cur.off + cur.len
  if o ≥ size then none else some ⟨o, min (size - o) effChunk, .segN⟩

/-- The fields of a segment's request (R213). -/
def segmentFields (size : Nat) (seg : Segment) (d : Bytes) : List (Config.Key × Config.Value) :=
  match seg.kind with
  | .seg0 => seg0Fields size d
  | .segN => segNFields seg.off d

/-- `BuildSegment(seg)` (R213): the wire bytes of a segment's request, built with the current SEQ. The caller increments SEQ,
once for the one header built (43_message_codec.md R189). -/
def buildSegment (s : State) (seg : Segment) : Except Fault Bytes :=
  match memRead seg.off seg.len s with
  | .error f => .error f
  | .ok d => match buildRequest s.codec s.seq 1 1 (segmentFields s.size seg d) with
    | .error f => .error f
    | .ok m => match encodeMessage s.crcInit m with
      | .error f => .error f
      | .ok lines => .ok lines.flatten

/-- `pc <- SendAndPrepareNext` and its write phase's emission (R215): one WRITE with all lines of the request. -/
def enterSend (s : State) : State := emit (.write s.curLines) { s with engine := .sendAndPrepareNext }

/-- The timeout budget of the active class (R217). -/
def budget (s : State) : Nat :=
  match s.tmo with
  | .first => s.tFirst
  | .next => s.tNext

/-- `pc <- AwaitAck` and AwaitAck's entry (R217): a fresh accumulation, the deadline, and READ. `now` is the environment's
(log 9). -/
def enterAwaitAck (s : State) : State :=
  let d := Config.now s.draws + budget s
  emit (.read d) { freshAccumulation s with engine := .awaitAck, deadline := d, draws := s.draws + 1 }

/-- PrepareFirst (R212). -/
def prepareFirst (s : State) : Outcome :=
  let s1 := { s with
    off := 0, cur := firstSegment s.size, tmo := .first, retry := 0, next := none, nextLines := none }
  match buildSegment s1 s1.cur with
  | .error f => .fault f
  | .ok lines => .next (enterSend (bumpSeq { s1 with curLines := lines }))

/-- Whether the retry bound is reached (R224, R229). -/
def retriesExhausted (s : State) : Bool :=
  match s.maxRetries with
  | none => false
  | some k => decide (k ≤ s.retry)

/-- Retransmit (R224, R228, R229). -/
def retransmit (s : State) : Outcome :=
  if retriesExhausted s then .next (raiseFailure .retryExhausted s.cur.off s)
  else
    let s1 := { s with retry := s.retry + 1, tmo := if s.cur.off = 0 then .first else .next }
    match buildSegment s1 s1.cur with
    | .error f => .fault f
    | .ok lines => .next (enterSend (bumpSeq { s1 with curLines := lines }))

/-- Advance (R225). With NEXT or NEXT_LINES empty, or ACK negative, which R232 excludes, it is refused (log 19). -/
def advance (s : State) : Outcome :=
  match s.next, s.nextLines, s.ack with
  | some n, some lines, .ofNat ack =>
    let s1 := { s with
      cur := n, curLines := lines, off := ack, tmo := .next, retry := 0, next := none, nextLines := none }
    .next (if s1.off = s1.size then enterDone s1 else enterSend s1)
  | _, _, _ => .refused .advanceWithoutNext

/-- The acknowledgement check (R221), on RC and ACK. -/
def judge (s : State) : State :=
  if s.rc ≠ 0 then raiseFailure .rejected s.rc s
  else if s.ack = s.size then enterDone (emit (.progress s.ack) s)
  else if s.ack > s.size then raiseFailure .overrun s.ack s
  else if s.ack ≠ s.cur.off + s.cur.len then { s with engine := .retransmit }
  else emit (.progress s.ack) { s with engine := .advance }

/-- Whether START is admitted (R210): `Idle`, `Done` or `Failed`. -/
def startAdmitted (e : EngineState) : Bool := e == .idle || e == .done || e == .failed

/-- Every session and decoder register at its power-on value (R210, 10_state.md R46), and the model's own record of a pending
answer or scan cleared. -/
def resetSession (s : State) : State :=
  let r := State.reset
  { s with
    engine := r.engine, off := r.off, cur := r.cur, next := r.next, failCause := r.failCause, failInfo := r.failInfo,
    tmo := r.tmo, deadline := r.deadline, acc := r.acc, fresh := r.fresh, rsm := r.rsm, seq := r.seq,
    retry := r.retry, ack := r.ack, rc := r.rc, curLines := r.curLines, nextLines := r.nextLines, result := r.result,
    outstanding := none, scan := .off }

/-- `START` (R210). -/
def execStart (size : Nat) (img : Bytes) (chunkCfg tFirst tNext : Nat) (crcInit : Word16) (maxRetries : Option Nat)
    (strictOff : Bool) (s : State) : Outcome :=
  if !startAdmitted s.engine then .refused .startInTransfer
  else if img.length ≠ size then .refused .imageSizeMismatch
  else if chunkCfg < Config.chunkMin ∨ chunkCfg > Config.chunkMax then .fault .configRange
  else .next { resetSession s with
    size := size, img := Memory.ofBytes img, chunkCfg := chunkCfg, effChunk := effChunkOf chunkCfg, tFirst := tFirst,
    tNext := tNext, crcInit := crcInit, maxRetries := maxRetries, strictOff := strictOff, engine := .prepareFirst }

/-- `WR_OK`: SendAndPrepareNext's speculative phase (R216) and AwaitAck's entry (R217). All bytes of the WRITE have reached the
device (R222). -/
def execWrOk (s : State) : Outcome :=
  if s.outstanding ≠ some .write then .refused .unexpectedAnswer
  else
    let s1 := { s with outstanding := none, wire := s.wire ++ s.curLines }
    match nextSegment s.size s.effChunk s.cur with
    | none => .next (enterAwaitAck { s1 with next := none, nextLines := none })
    | some n => match buildSegment s1 n with
      | .error f => .fault f
      | .ok lines => .next (enterAwaitAck (bumpSeq { s1 with next := some n, nextLines := some lines }))

/-- `WR_ERR`: failure TRANSPORT_WRITE (R215, 60_exceptions.md R252). Some of the WRITE's bytes, from the first on, have
reached the device (20_memory.md R58; how many: log 10). -/
def execWrErr (s : State) : Outcome :=
  if s.outstanding ≠ some .write then .refused .unexpectedAnswer
  else .next (raiseFailure .transportWrite s.cur.off
    { s with wire := s.wire ++ s.curLines.take (Config.deliveredCount s.draws), draws := s.draws + 1 })

/-- `RD_DATA(bs)`: DecFeed, and DecPoll begins (R218); the lines and messages it reaches are instructions of their own
(log 1). -/
def execRdData (bs : Bytes) (s : State) : Outcome :=
  if s.outstanding ≠ some .read then .refused .unexpectedAnswer
  else .next { decFeed bs s with outstanding := none, scan := .lines }

/-- `RD_TIMEOUT`: "go to **Retransmit**" (R219). -/
def execRdTimeout (s : State) : Outcome :=
  if s.outstanding ≠ some .read then .refused .unexpectedAnswer
  else .next { s with outstanding := none, engine := .retransmit }

/-- `RD_ERR`: failure TRANSPORT_READ (R220, 60_exceptions.md R253). -/
def execRdErr (s : State) : Outcome :=
  if s.outstanding ≠ some .read then .refused .unexpectedAnswer
  else .next (raiseFailure .transportRead s.cur.off s)

/-- DecPoll's `NeedMore` (42_frame_decoder.md R153, 44_upload_engine.md R218): READ again, "same deadline". -/
def needMore (s : State) : State := emit (.read s.deadline) { s with scan := .off }

end Sys2Proof.Machine
end

