-- ==== Sys2Proof/Machine/Lines.lean ====
section
/-! DEFINITION. The meanings of the received-line rows: one pass of DecPoll over one line (42_frame_decoder.md R154–R162). -/

namespace Sys2Proof.Machine

/-- The completion check (R161) and the CRC check (R162) on `RSM = COLLECT(decl, rbuf)`. A message that passes is held for the
response test (R163). -/
def completionCheck (decl : Word16) (rbuf : Bytes) (s : State) : State :=
  let s1 := { s with rsm := .collect decl rbuf }
  if rbuf.length > decl.toNat then integrityFailure .length s1
  else if rbuf.length < decl.toNat then s1
  else
    let s2 := { s1 with rsm := .idle }
    if crcOk s.crcInit rbuf then { s2 with scan := .message (slice rbuf 0 (rbuf.length - 2)) }
    else integrityFailure .crc s2

/-- `LINE_START` (R157). -/
def execLineStart (text : Bytes) (s : State) : Outcome :=
  match b64Decode text with
  | none => .next (integrityFailure .malformed s)
  | some d =>
    if d.length < 2 then .next (integrityFailure .malformed s)
    else
      let decl := rdBe16 d 0
      if decl < 2 then .next (integrityFailure .length s)
      else .next (completionCheck (BitVec.ofNat 16 decl) (d.drop 2) s)

/-- `LINE_CONT`: appended while collecting (R158), discarded undecoded while idle (R159). -/
def execLineCont (text : Bytes) (s : State) : Outcome :=
  match s.rsm with
  | .idle => .next s
  | .collect decl rbuf => match b64Decode text with
    | none => .next (integrityFailure .malformed s)
    | some d => .next (completionCheck decl (rbuf ++ d) s)

/-- `LINE_NOISE` (R154): "discard it (empty/noise line) and continue scanning". -/
def execLineNoise (_line : Bytes) (s : State) : Outcome := .next s

/-- `LINE_OTHER` (R156): "ignored, not errored". -/
def execLineOther (_marker : Word16) (_rest : Bytes) (s : State) : Outcome := .next s

end Sys2Proof.Machine
end

