-- ==== Sys2Proof/Machine/Message.lean ====
section
/-! DEFINITION. The meanings of the request and message rows: request-builder calls (43_message_codec.md R180–R189) and received
messages (R190–R195). -/

namespace Sys2Proof.Machine

/-- A request-builder call: the message is built with the current SEQ, SEQ is incremented, and the message is returned to the
caller (R181, R189; the return slot `built`: log 4). -/
def callBuilder (group : Word16) (id : Byte) (fields : List (Config.Key × Config.Value)) (s : State) : Outcome :=
  match buildRequest s.codec s.seq group id fields with
  | .error f => .fault f
  | .ok m => .next { bumpSeq s with built := some m }

/-- `REQ_ECHO_CTRL`: `ReqEcho(e)` (R183). -/
def execReqEchoCtrl (flag : Int) (s : State) : Outcome := callBuilder 0 1 (echoFields flag) s

/-- `REQ_RESET`: `ReqReset()` (R183). -/
def execReqReset (s : State) : Outcome := callBuilder 0 5 [] s

/-- `REQ_UPLOAD_SEG0`: `ReqSeg0(S, d)` (R184). R184 has `S` the image size and `d` the bytes `MemRead(0, len(d))` and gives no
outcome for other operands; a call builds any size and data it is given: DESIGN CHOICE, log 28; unsafe. -/
def execReqUploadSeg0 (size : Nat) (data : Bytes) (s : State) : Outcome := callBuilder 1 1 (seg0Fields size data) s

/-- `REQ_UPLOAD_SEGN`: `ReqSegN(o, d)` (R185). R185 has `o > 0` and `d` equal to `MemRead(o, len(d))` and gives no outcome for
other operands; a call builds any offset and data it is given: DESIGN CHOICE, log 28; unsafe. -/
def execReqUploadSegN (offset : Nat) (data : Bytes) (s : State) : Outcome := callBuilder 1 1 (segNFields offset data) s

/-- A response that passed the response test (42_frame_decoder.md R163, 44_upload_engine.md R218): DecPoll ends, the response is
decoded, and RC and ACK are judged. -/
def acceptResponse (msg : Bytes) (s : State) : State :=
  let s1 := { s with scan := .off }
  match decodeResponse s.codec s.strictOff msg with
  | .error sub => decodeFailure sub s1
  | .ok (rc, ack) => judge { s1 with rc := rc, ack := ack }

/-- `MSG_READ_RESPONSE` (43_message_codec.md R190): a response. -/
def execMsgReadResponse (hdr : Header) (payload : Bytes) (s : State) : Outcome :=
  .next (acceptResponse (headerBytes 1 hdr ++ payload) s)

/-- `MSG_WRITE_RESPONSE` (R190): a response. -/
def execMsgWriteResponse (hdr : Header) (payload : Bytes) (s : State) : Outcome :=
  .next (acceptResponse (headerBytes 3 hdr ++ payload) s)

/-- `MSG_NONRESPONSE` (42_frame_decoder.md R163): "silently discarded and scanning resumes". -/
def execMsgNonresponse (_msg : Bytes) (s : State) : Outcome := .next { s with scan := .lines }

end Sys2Proof.Machine
end

