-- ==== Sys2Proof/Machine/Output.lean ====
section
/-! DEFINITION. The meanings of the output events (30_encoding.md R86): each leaves at the port; WRITE and READ then wait for
their one answer. -/

namespace Sys2Proof.Machine

/-- An output event leaves at the port. -/
def send (e : OutEvent) (s : State) : State := { s with out := s.out ++ [e] }

/-- `WRITE`: `write_all(bytes)`, "answered by exactly one `WR_OK` or `WR_ERR`" (44_upload_engine.md R222). -/
def execWrite (bs : Bytes) (s : State) : Outcome := .next { send (.write bs) s with outstanding := some .write }

/-- `READ`: `read_with_deadline(deadline)` (44_upload_engine.md R223). -/
def execRead (deadline : Nat) (s : State) : Outcome := .next { send (.read deadline) s with outstanding := some .read }

/-- `PROGRESS`: "The event has no effect on the FCU's state" (60_exceptions.md R262). -/
def execProgress (offset : Int) (s : State) : Outcome := .next (send (.progress offset) s)

/-- `RESULT` (60_exceptions.md R271). -/
def execResult (code : ResultCode) (cause : FailCause) (info : Int) (s : State) : Outcome :=
  .next (send (.result code cause info) s)

/-- The instruction of an output event. -/
def OutEvent.instr : OutEvent → Instr
  | .write bs => .write bs
  | .read deadline => .read deadline
  | .progress offset => .progress offset
  | .result code cause info => .result code cause info

/-- The output event of an instruction, where it is one (30_encoding.md R86, direction out). -/
def outEvent? : Instr → Option OutEvent
  | .write bs => some (.write bs)
  | .read deadline => some (.read deadline)
  | .progress offset => some (.progress offset)
  | .result code cause info => some (.result code cause info)
  | .start .. | .wrOk | .wrErr | .rdData _ | .rdTimeout | .rdErr => none
  | .lineStart _ | .lineCont _ | .lineNoise _ | .lineOther .. => none
  | .msgReadResponse .. | .msgWriteResponse .. | .msgNonresponse _ => none
  | .reqEchoCtrl _ | .reqReset | .reqUploadSeg0 .. | .reqUploadSegN .. => none

end Sys2Proof.Machine
end

