-- ==== Sys2Proof/Machine/Dispatch.lean ====
section
/-! DEFINITION. `exec`: one arm per instruction. -/

namespace Sys2Proof.Machine

def exec (i : Instr) (s : State) : Host.Outcome State Fault Refusal :=
  match i with
  | .start size img chunk tf tn init mr strict => Sys2Proof.Machine.execStart size img chunk tf tn init mr strict s
  | .wrOk => Sys2Proof.Machine.execWrOk s
  | .wrErr => Sys2Proof.Machine.execWrErr s
  | .rdData bs => Sys2Proof.Machine.execRdData bs s
  | .rdTimeout => Sys2Proof.Machine.execRdTimeout s
  | .rdErr => Sys2Proof.Machine.execRdErr s
  | .write bs => Sys2Proof.Machine.execWrite bs s
  | .read deadline => Sys2Proof.Machine.execRead deadline s
  | .progress offset => Sys2Proof.Machine.execProgress offset s
  | .result code cause info => Sys2Proof.Machine.execResult code cause info s
  | .lineStart text => Sys2Proof.Machine.execLineStart text s
  | .lineCont text => Sys2Proof.Machine.execLineCont text s
  | .lineNoise line => Sys2Proof.Machine.execLineNoise line s
  | .lineOther marker rest => Sys2Proof.Machine.execLineOther marker rest s
  | .msgReadResponse hdr payload => Sys2Proof.Machine.execMsgReadResponse hdr payload s
  | .msgWriteResponse hdr payload => Sys2Proof.Machine.execMsgWriteResponse hdr payload s
  | .msgNonresponse msg => Sys2Proof.Machine.execMsgNonresponse msg s
  | .reqEchoCtrl flag => Sys2Proof.Machine.execReqEchoCtrl flag s
  | .reqReset => Sys2Proof.Machine.execReqReset s
  | .reqUploadSeg0 size data => Sys2Proof.Machine.execReqUploadSeg0 size data s
  | .reqUploadSegN offset data => Sys2Proof.Machine.execReqUploadSegN offset data s

end Sys2Proof.Machine
end

