-- ==== Sys2Proof/Machine/Fetch.lean ====
section
/-! DEFINITION. Where the next instruction comes from, in the order in which the FCU has work: an emitted event not yet sent, a
checked message, a received line, an internal transition of the engine, a request-builder call between transfers, an input event (log 1, 2, 20). -/

namespace Sys2Proof.Machine

/-- What the machine does next. -/
inductive Pending where
  /-- An emitted event leaves at the port; the rest stay. -/
  | emission (e : OutEvent) (rest : List OutEvent)
  /-- A message that passed the CRC check is classified (42_frame_decoder.md R163). -/
  | message (msg : Bytes)
  /-- The first line of ACC, and ACC after it (42_frame_decoder.md R153). -/
  | line (line rest : Bytes)
  /-- DecPoll found no line (R153). -/
  | needMore
  /-- PrepareFirst, Retransmit or Advance (44_upload_engine.md R230, "internal"). -/
  | prepareFirst
  | retransmit
  | advance
  /-- A request-builder call. -/
  | call (bytes : Bytes)
  /-- An input event. -/
  | event (bytes : Bytes)
  /-- Nothing: the machine waits for its environment (70_reset_and_hazards.md R292). -/
  | waiting
  deriving DecidableEq, Repr

/-- The input events that come next: those in store, or, where none is, the standing ones from the first on (log 26). -/
def inputBytes (s : State) : Bytes :=
  match s.port with
  | [] => s.standing
  | _ :: _ => s.port

/-- Whether a request-builder call may run: no transfer is in progress and no WRITE or READ waits for its answer, each of which
"completes before the FCU's next step" (20_memory.md R61, as the model reads it: DEDUCED, log 20; unsafe). -/
def callAdmitted (s : State) : Bool := startAdmitted s.engine && s.outstanding == none

/-- What the environment has in store: a call, where one may run, before an event (log 2). -/
def pendingInput (s : State) : Pending :=
  if callAdmitted s && !s.calls.isEmpty then .call s.calls
  else match inputBytes s with
    | [] => .waiting
    | b :: bs => .event (b :: bs)

/-- The engine's part of the order. -/
def pendingEngine (s : State) : Pending :=
  match s.engine with
  | .prepareFirst => .prepareFirst
  | .retransmit => .retransmit
  | .advance => .advance
  | .idle | .sendAndPrepareNext | .awaitAck | .done | .failed => pendingInput s

/-- What the machine does next. -/
def pending (s : State) : Pending :=
  match s.emits, s.scan with
  | e :: es, _ => .emission e es
  | [], .message m => .message m
  | [], .lines => match splitLine s.acc with
    | some (line, rest) => .line line rest
    | none => .needMore
  | [], .off => pendingEngine s

/-- Run the instruction at the head of the request-builder calls. -/
def stepCall (bytes : Bytes) (s : State) : Outcome :=
  match decodeRequest bytes with
  | .error e => .refused (.undecodable e)
  | .ok (i, rest) => exec i { s with calls := rest }

/-- Run the input event at the head of the port; an event of direction out is refused there (30_encoding.md R86). -/
def stepEvent (bytes : Bytes) (s : State) : Outcome :=
  match decodeEvent bytes with
  | .error e => .refused (.undecodable e)
  | .ok (i, rest) => match outEvent? i with
    | some _ => .refused .outputAtInput
    | none => exec i { s with port := rest }

/-- Do what is pending. -/
def stepPending (p : Pending) (s : State) : Outcome :=
  match p with
  | .emission e rest => exec e.instr { s with emits := rest }
  | .message m => exec (decodeMessage m) s
  | .line line rest => exec (decodeLine line) { s with acc := rest }
  | .needMore => .next (needMore s)
  | .prepareFirst => prepareFirst s
  | .retransmit => retransmit s
  | .advance => advance s
  | .call bytes => stepCall bytes s
  | .event bytes => stepEvent bytes s
  | .waiting => .refused .awaitingEvent

/-- One step: power-on reset where the environment asserts it (70_reset_and_hazards.md R280, "at any time"), else what is
pending. -/
def stepOnce (s : State) : Outcome :=
  if s.resetLine then .next (powerOnReset s) else stepPending (pending s) s

/-- The engine at rest, where it reads input: an internal transition is not pending. -/
def restingEngine (e : EngineState) : EngineState :=
  match e with
  | .prepareFirst | .retransmit | .advance => .idle
  | .idle | .sendAndPrepareNext | .awaitAck | .done | .failed => e

/-- The transport operation an input event answers (30_encoding.md R86). -/
def answers : Instr → Option PortCall
  | .wrOk | .wrErr => some .write
  | .rdData _ | .rdTimeout | .rdErr => some .read
  | .start .. | .write _ | .read _ | .progress _ | .result .. => none
  | .lineStart _ | .lineCont _ | .lineNoise _ | .lineOther .. => none
  | .msgReadResponse .. | .msgWriteResponse .. | .msgNonresponse _ => none
  | .reqEchoCtrl _ | .reqReset | .reqUploadSeg0 .. | .reqUploadSegN .. => none

/-- Place one input event for the next step: the engine at rest (START wants no transfer in progress), the operation the event
answers outstanding (log 25). -/
def placeInput (i : Instr) (bytes : Bytes) (s : State) : State :=
  match answers i with
  | some c => { s with engine := restingEngine s.engine, outstanding := some c, calls := [], port := bytes }
  | none => { s with
      engine := if startAdmitted s.engine then s.engine else .idle, calls := [], port := bytes }

/-- Place the bytes of a table word where the next step takes its instruction (log 25). -/
def placeWord (layer : Layer) (bytes : Bytes) (s : State) : State :=
  let s1 := { s with resetLine := false, emits := [], scan := .off }
  match layer with
  | .event => match decodeEvent bytes with
    | .error _ => { s1 with engine := restingEngine s.engine, calls := [], port := bytes }
    | .ok (i, _) => match outEvent? i with
      | some e => { s1 with emits := [e] }
      | none => placeInput i bytes s1
  | .line => { s1 with scan := .lines, acc := bytes }
  | .message => { s1 with scan := .message bytes }
  | .request => { s1 with
      engine := if startAdmitted s.engine then s.engine else .idle, outstanding := none, calls := bytes }

end Sys2Proof.Machine
end

