-- ==== Sys2Proof/Machine/Step.lean ====
section
/-! DEFINITION. One step of the machine, and a table word placed where the next step takes its instruction. -/

namespace Sys2Proof.Machine

/-- One step (00_scope.md R3; log 1). -/
def step (s : State) : Host.Outcome State Fault Refusal := stepOnce s

/-- The state whose next step runs the instruction of a table word (log 25). -/
def State.withFetchWord (s : State) (nbits w : Nat) : State :=
  match tableBytes nbits w with
  | none => s
  | some (layer, bytes) => placeWord layer bytes s

end Sys2Proof.Machine
end

