-- ==== Sys2Proof/Machine/Poll.lean ====
section
/-! DEFINITION. DecPoll as the spec writes it, in one piece (42_frame_decoder.md R153–R164), and RD_DATA's whole rule (44_upload_engine.md
R218). The step does this work line by line (log 1); statements say that it comes to the same. -/

namespace Sys2Proof.Machine

/-- What DecPoll returns (R164). -/
inductive PollResult where
  | ok (msg : Bytes)
  | needMore
  | err (sub : IntegritySub)
  deriving DecidableEq, Repr

/-- What one line comes to: scanning goes on, a checked message, or an integrity error. -/
inductive LineResult where
  | scanOn
  | message (msg : Bytes)
  | err (sub : IntegritySub)
  deriving DecidableEq, Repr

/-- R161 and R162, with RSM after them. -/
def pollBuffer (init : Word16) (decl : Word16) (rbuf : Bytes) : LineResult × Rsm :=
  if rbuf.length > decl.toNat then (.err .length, .collect decl rbuf)
  else if rbuf.length < decl.toNat then (.scanOn, .collect decl rbuf)
  else if crcOk init rbuf then (.message (slice rbuf 0 (rbuf.length - 2)), .idle)
  else (.err .crc, .idle)

/-- R154 to R162 on one line and RSM. -/
def pollLine (init : Word16) (rsm : Rsm) (line : Bytes) : LineResult × Rsm :=
  if line.length ≤ 2 then (.scanOn, rsm)
  else if line.take 2 = [0x06, 0x09] then
    match b64Decode (line.drop 2) with
    | none => (.err .malformed, rsm)
    | some d =>
      if d.length < 2 then (.err .malformed, rsm)
      else if rdBe16 d 0 < 2 then (.err .length, rsm)
      else pollBuffer init (BitVec.ofNat 16 (rdBe16 d 0)) (d.drop 2)
  else if line.take 2 = [0x04, 0x14] then
    match rsm with
    | .idle => (.scanOn, rsm)
    | .collect decl rbuf => match b64Decode (line.drop 2) with
      | none => (.err .malformed, rsm)
      | some d => pollBuffer init decl (rbuf ++ d)
  else (.scanOn, rsm)

/-- `DecPoll()` (R153–R164) on ACC and RSM, with ACC and RSM after it. `fuel` bounds the number of lines; the length of ACC
is enough. -/
def decPoll (init : Word16) : Nat → Bytes → Rsm → PollResult × Bytes × Rsm
  | 0, acc, rsm => (.needMore, acc, rsm)
  | fuel + 1, acc, rsm =>
    match splitLine acc with
    | none => (.needMore, acc, rsm)
    | some (line, rest) => match pollLine init rsm line with
      | (.scanOn, rsm') => decPoll init fuel rest rsm'
      | (.err sub, rsm') => (.err sub, rest, rsm')
      | (.message m, rsm') => if isResponse m then (.ok m, rest, rsm') else decPoll init fuel rest rsm'

/-- The decoder's registers: ACC, FRESH, RSM. -/
structure DecRegs where
  acc : Bytes
  fresh : Bool
  rsm : Rsm
  deriving DecidableEq, Repr

/-- A fresh accumulation (R151). -/
def DecRegs.init : DecRegs := ⟨[], true, .idle⟩

/-- One read: DecFeed, then DecPoll (R218). -/
def readPoll (init : Word16) (r : DecRegs) (bs : Bytes) : PollResult × DecRegs :=
  let fed := bs.foldl feedByte (r.acc, r.fresh)
  let p := decPoll init fed.1.length fed.1 r.rsm
  (p.1, ⟨p.2.1, fed.2, p.2.2⟩)

/-- What DecPoll returns after each of several reads. -/
def pollTrace (init : Word16) : DecRegs → List Bytes → List PollResult
  | _, [] => []
  | r, bs :: rest => (readPoll init r bs).1 :: pollTrace init (readPoll init r bs).2 rest

/-- RD_DATA's whole rule (R218), in one piece. -/
def rdDataWhole (bs : Bytes) (s : State) : State :=
  let p := readPoll s.crcInit ⟨s.acc, s.fresh, s.rsm⟩ bs
  let s1 := { s with acc := p.2.acc, fresh := p.2.fresh, rsm := p.2.rsm, outstanding := none, scan := .off }
  match p.1 with
  | .needMore => emit (.read s.deadline) s1
  | .err sub => integrityFailure sub s1
  | .ok msg => acceptResponse msg s1

end Sys2Proof.Machine
end

