-- ==== Sys2Proof/Safety.lean ====
section
/-! DEFINITION. What the claims call a good state and a finished run: the session invariants (10_state.md R45 and what the engine's
rules derive), lockstep (44_upload_engine.md R233), and the end of a run (70_reset_and_hazards.md R292). -/

namespace Sys2Proof

open Sys2Proof.Machine

/-- What is emitted, awaited and scanned in each engine state. -/
def portDiscipline (s : State) : Prop :=
  match s.engine with
  | .idle | .prepareFirst | .retransmit => s.emits = [] ∧ s.outstanding = none ∧ s.scan = .off
  | .sendAndPrepareNext =>
      s.scan = .off ∧ ((s.emits = [.write s.curLines] ∧ s.outstanding = none)
        ∨ (s.emits = [] ∧ s.outstanding = some .write))
  | .awaitAck =>
      (s.scan = .off ∧ ((s.emits = [.read s.deadline] ∧ s.outstanding = none)
        ∨ (s.emits = [] ∧ s.outstanding = some .read)))
      ∨ (s.scan ≠ .off ∧ s.emits = [] ∧ s.outstanding = none)
  | .advance => s.outstanding = none ∧ s.scan = .off ∧ (s.emits = [.progress s.ack] ∨ s.emits = [])
  | .done => s.outstanding = none ∧ s.scan = .off ∧ (s.emits = [.progress s.ack, .result .success .none 0]
      ∨ s.emits = [.result .success .none 0] ∨ s.emits = [])
  | .failed => s.outstanding = none ∧ s.scan = .off
      ∧ (s.emits = [.result .failure s.failCause s.failInfo] ∨ s.emits = [])

/-- What the registers keep during a session. -/
structure SessionInv (s : State) : Prop where
  /-- The image is in canonical form. -/
  imageCanonical : Memory.wf s.img = true
  /-- R45 (a). -/
  offIsCur : s.off = s.cur.off
  /-- R45 (b), (c). -/
  curInImage : s.cur.off + s.cur.len ≤ s.size
  /-- R45 (e), and NEXT lies in the image, is not empty, is a segment N (44_upload_engine.md R214) and keeps to the budget
  (R235). -/
  nextFollows : ∀ n, s.next = some n →
    n.off = s.cur.off + s.cur.len ∧ n.off + n.len ≤ s.size ∧ 1 ≤ n.len ∧ n.kind = .segN ∧ n.len ≤ s.effChunk
  /-- 10_state.md R32: SEG0 exactly at offset 0. -/
  kindByOffset : s.cur.kind = .seg0 ↔ s.cur.off = 0
  /-- A segment in flight is empty only for an empty image (R212, R214). -/
  curNonempty : s.engine ≠ .idle → s.engine ≠ .prepareFirst → 0 < s.cur.len ∨ s.size = 0
  /-- 44_upload_engine.md R235: a segment carries at most EFF_CHUNK bytes. -/
  curBudget : s.engine ≠ .idle → s.engine ≠ .prepareFirst → s.cur.len ≤ s.effChunk
  /-- 10_state.md R22, R23 and 44_upload_engine.md R235. -/
  chunkLegal : s.engine ≠ .idle → 64 ≤ s.chunkCfg ∧ s.chunkCfg ≤ 2048 ∧ s.effChunk = s.chunkCfg * 3 / 4 - 16
  /-- 44_upload_engine.md R228. -/
  timeoutClass : s.tmo = .first ↔ s.off = 0
  /-- 10_state.md R44. -/
  resultDone : s.result = some .success ↔ s.engine = .done
  /-- 10_state.md R44. -/
  resultFailed : s.result = some .failure ↔ s.engine = .failed
  /-- 10_state.md R34. -/
  causeFailed : s.failCause ≠ .none ↔ s.engine = .failed
  /-- 10_state.md R37. -/
  freshEmpty : s.fresh = true → s.acc = []
  /-- 42_frame_decoder.md R157, R161: a declared length is at least 2, and collecting means that it is not reached. -/
  collecting : ∀ decl rbuf, s.rsm = .collect decl rbuf →
    2 ≤ decl.toNat ∧ (s.engine ≠ .failed → rbuf.length < decl.toNat)
  /-- 44_upload_engine.md R216: NEXT is the segment after CUR from the write's answer until Advance adopts it. -/
  nextReady : s.engine = .awaitAck ∨ s.engine = .advance →
    s.next = nextSegment s.size s.effChunk s.cur ∧ s.nextLines.isSome = s.next.isSome
  /-- 44_upload_engine.md R232. -/
  advanceReady : s.engine = .advance →
    ∃ n lines, s.next = some n ∧ s.nextLines = some lines ∧ s.ack = n.off
  /-- 44_upload_engine.md R229. -/
  retryBound : ∀ k, s.maxRetries = some k → s.retry ≤ k

/-- The invariant of the machine: what the registers keep, and what is emitted, awaited and scanned in each engine state. -/
structure Inv (s : State) : Prop where
  session : SessionInv s
  port : portDiscipline s

/-- What the line registers hold: the lines sent are a build of CUR, the lines prepared a build of NEXT, each with some value of
SEQ (10_state.md R42, R43, 44_upload_engine.md R213). -/
structure WireInv (s : State) : Prop where
  current : s.engine = .sendAndPrepareNext → ∃ q, buildSegment { s with seq := q } s.cur = .ok s.curLines
  prepared : ∀ n lines, s.next = some n → s.nextLines = some lines →
    ∃ q, buildSegment { s with seq := q } n = .ok lines

/-- Whether a sequence of output events has a WRITE with no READ and no RESULT after it. -/
def writeOpen : Bool → List OutEvent → Bool
  | w, [] => w
  | _, .write _ :: es => writeOpen true es
  | _, .read _ :: es => writeOpen false es
  | _, .result .. :: es => writeOpen false es
  | w, .progress _ :: es => writeOpen w es

/-- Whether between any two WRITEs there is a READ or a RESULT (44_upload_engine.md R233, 70_reset_and_hazards.md R286). -/
def lockstep : Bool → List OutEvent → Bool
  | _, [] => true
  | w, .write _ :: es => !w && lockstep true es
  | _, .read _ :: es => lockstep false es
  | _, .result .. :: es => lockstep false es
  | w, .progress _ :: es => lockstep w es

/-- One request in flight (44_upload_engine.md R233): what has been and is being sent is in lockstep, and a WRITE is open only in
SendAndPrepareNext. -/
structure OneInFlight (s : State) : Prop where
  alternates : lockstep false (s.out ++ s.emits) = true
  openOnlyInSend : writeOpen false (s.out ++ s.emits) = true → s.engine = .sendAndPrepareNext

/-- The configuration registers (10_state.md R28). -/
def configOf (s : State) : Nat × List Host.Cell × Nat × Nat × Nat × Nat × Word16 × Option Nat × Bool :=
  (s.size, s.img, s.chunkCfg, s.effChunk, s.tFirst, s.tNext, s.crcInit, s.maxRetries, s.strictOff)

/-! What the statements say of single operations, spelled out on the registers. -/

/-- A failure entered (60_exceptions.md R251, 44_upload_engine.md R227). -/
def failedWith (c : FailCause) (i : Int) (s : State) : State :=
  { s with
    failCause := c, failInfo := i, engine := .failed, result := some .failure, outstanding := none, scan := .off,
    emits := s.emits ++ [.result .failure c i] }

/-- The payload of a request, its header echo first and with `len` = 0 (43_message_codec.md R181, R187). -/
def requestPayload (codec : Config.Codec) (seq : BitVec 8) (group : Word16) (id : Byte)
    (fields : List (Config.Key × Config.Value)) : Bytes :=
  encPayload codec ((keyHdr, .hdrEcho ([0x02, 0x00, 0x00, 0x00] ++ be16 group ++ [seq, id])) :: fields)

/-- A request message: op 2, `res`, `flags` 0, the payload's length, group, SEQ and id, then the payload (43_message_codec.md
R180, R181, R188). -/
def requestMessage (codec : Config.Codec) (seq : BitVec 8) (group : Word16) (id : Byte)
    (fields : List (Config.Key × Config.Value)) : Bytes :=
  [0x02, 0x00] ++ be16Nat (requestPayload codec seq group id fields).length ++ be16 group ++ [seq, id]
    ++ requestPayload codec seq group id fields

/-- The fields of an upload segment's request: SEG0 declares the image size (43_message_codec.md R184, R185). -/
def uploadFields (s : State) (seg : Segment) : List (Config.Key × Config.Value) :=
  let data := (List.range seg.len).map fun k => Memory.read s.img (seg.off + k)
  match seg.kind with
  | .seg0 => [(keySha, .bytes []), (keyOff, .int 0), (keyLen, .int s.size), (keyData, .bytes data)]
  | .segN => [(keyOff, .int seg.off), (keyData, .bytes data)]

/-- The request message of a segment, built with the current SEQ (44_upload_engine.md R213). -/
def segmentMessage (s : State) (seg : Segment) : Bytes := requestMessage s.codec s.seq 1 1 (uploadFields s seg)

/-- Bytes kept by DecFeed (42_frame_decoder.md R150, R152). -/
def keptBytes (fresh : Bool) (bs : Bytes) : Bytes :=
  if fresh then bs.dropWhile fun b => b == 0x0D || b == 0x0A else bs

/-- What a reassembly buffer comes to (42_frame_decoder.md R161, R162): too long, incomplete, good, or damaged. -/
def collected (decl : Nat) (rbuf : Bytes) (s : State) : State :=
  if decl < rbuf.length then failedWith .integrity 3 { s with rsm := .collect (BitVec.ofNat 16 decl) rbuf }
  else if rbuf.length < decl then { s with rsm := .collect (BitVec.ofNat 16 decl) rbuf }
  else if rbuf.drop (decl - 2) = be16 (crc16 s.crcInit (rbuf.take (decl - 2))) then
    { s with rsm := .idle, scan := .message (rbuf.take (decl - 2)) }
  else failedWith .integrity 1 { s with rsm := .idle }

/-- What RC and ACK come to (44_upload_engine.md R221). -/
def judged (s : State) : State :=
  if s.rc ≠ 0 then failedWith .rejected s.rc s
  else if s.ack = s.size then
    { s with
      engine := .done, result := some .success, outstanding := none, scan := .off,
      emits := s.emits ++ [.progress s.ack, .result .success .none 0] }
  else if s.size < s.ack then failedWith .overrun s.ack s
  else if s.ack ≠ s.cur.off + s.cur.len then { s with engine := .retransmit }
  else { s with engine := .advance, emits := s.emits ++ [.progress s.ack] }

/-- The value of a key's last occurrence (43_message_codec.md R192). -/
def lastOf (key : Config.Key) (kvs : List (Config.Key × Config.RValue)) : Option Config.RValue :=
  (kvs.reverse.find? fun kv => kv.1 == key).map Prod.snd

/-- What a response's payload comes to (43_message_codec.md R191–R193, 44_upload_engine.md R218). -/
def answered (payload : Bytes) (s : State) : State :=
  let s0 := { s with scan := .off }
  match decPayload s.codec payload with
  | none => failedWith .decode 2 s0
  | some kvs => match (lastOf keyRc kvs).getD (.int 0), lastOf keyOff kvs with
    | .other, _ => failedWith .decode 3 s0
    | .int _, some .other => failedWith .decode 3 s0
    | .int rc, some (.int off) => judged { s0 with rc := rc, ack := off }
    | .int rc, none => if s.strictOff then failedWith .decode 4 s0 else judged { s0 with rc := rc, ack := 0 }

/-- The segments from `cur` on, one after the other (44_upload_engine.md R214). -/
def segmentsFrom (size effChunk : Nat) : Nat → Segment → List Segment
  | 0, _ => []
  | fuel + 1, cur => cur :: match nextSegment size effChunk cur with
    | none => []
    | some n => segmentsFrom size effChunk fuel n

/-- Nothing is being sent or scanned and no power-on reset is asserted: the engine's next internal transition or input is
due. -/
def quiet (s : State) : Prop := s.resetLine = false ∧ s.emits = [] ∧ s.scan = .off

/-- A transfer is in progress or an operation of the port awaits its answer: a request-builder call waits (the model's reading of 20_memory.md R61,
log 20). -/
def callsWait (s : State) : Prop :=
  s.outstanding ≠ none ∨ (s.engine ≠ .idle ∧ s.engine ≠ .done ∧ s.engine ≠ .failed)

/-- A device that never answers: the events in store are used up, and the environment gives RD_TIMEOUT to every READ and WR_OK to
every WRITE, over and over (44_upload_engine.md R229, log 26). -/
def neverAnswered (s : State) : Prop := s.port = [] ∧ s.standing = [0x21, 0x10]

/-- A run has ended successfully (70_reset_and_hazards.md R292). -/
def endedWell (s : State) : Prop :=
  s.engine = .done ∧ s.out.getLast? = some (.result .success .none 0)

/-- A run has ended with failure (R292). -/
def endedInFailure (s : State) : Prop :=
  s.engine = .failed ∧ s.out.getLast? = some (.result .failure s.failCause s.failInfo)

/-- No fault and no refusal: what a safe step answers. -/
def safeStep (s : State) : Prop := ∃ t, step s = .next t

end Sys2Proof
end

