-- ==== Sys2Proof/Certificates/Slice0/Obligations.lean ====
section
/-! DEFINITION. The statements for the provers. `R<n>` is a numbered rule of spec/; `log <n>` is notes/assumptions/<n>.md. -/

open Sys2Proof Sys2Proof.Machine

/-! Encoding. -/

/-- Decoding an encoded well-formed instruction gives it back, with what follows it (the operand layouts of events and calls are the
model's: log 3, 4). A message has no end of its own (30_encoding.md R83), so nothing follows it. -/
def Obligations.DecodeOfEncodeIsTheInstruction : Prop :=
  ∀ (i : Instr) (rest : Bytes), i.wellFormed = true →
    (i.layer ≠ .message → decode i.layer (encode i ++ rest) = .ok (i, rest)) ∧
    (i.layer = .message → decode i.layer (encode i) = .ok (i, []))

/-- Words written out from 30_encoding.md R71, R72, R75, R77, R80, R86 decode to the instructions they stand for. -/
def Obligations.SpecWordsDecode : Prop :=
  decode .event [0x10] = .ok (.wrOk, []) ∧
  decode .event [0x22] = .ok (.rdErr, []) ∧
  decode .line [0x06, 0x09, 0x41, 0x41, 0x49, 0x41, 0x41, 0x41, 0x3D, 0x3D, 0x0A]
    = .ok (.lineStart [0x41, 0x41, 0x49, 0x41, 0x41, 0x41, 0x3D, 0x3D], []) ∧
  decode .line [0x04, 0x14, 0x2B, 0x67, 0x3D, 0x3D, 0x0A] = .ok (.lineCont [0x2B, 0x67, 0x3D, 0x3D], []) ∧
  decode .line [0x06, 0x09, 0x0A] = .ok (.lineNoise [0x06, 0x09], []) ∧
  decode .line [0x68, 0x65, 0x79, 0x0A] = .ok (.lineOther 0x6865 [0x79], []) ∧
  decode .message [0x0B, 0x80, 0x12, 0x34, 0x00, 0x01, 0x05, 0x02, 0xA0]
    = .ok (.msgWriteResponse ⟨1, 0x80, 0x1234, 0x0001, 0x05, 0x02⟩ [0xA0], []) ∧
  decode .message [0x01, 0x00, 0x00, 0x00, 0x00, 0x01, 0x00, 0x01]
    = .ok (.msgReadResponse ⟨0, 0, 0, 1, 0, 1⟩ [], []) ∧
  decodeTableWord 64 0x0200000000000005 = some .reqReset ∧
  decodeTableWord 8 0x21 = some .rdTimeout

/-- Every line is in exactly the class its length and first two bytes give it (30_encoding.md R80, 42_frame_decoder.md R155), and
no byte of it is lost. -/
def Obligations.ReceivedLineIsItsClass : Prop :=
  ∀ line : Bytes, (0x0A : Byte) ∉ line →
    (decodeLine line).wellFormed = true ∧ encode (decodeLine line) = line ++ [0x0A] ∧
    (line.length ≤ 2 → decodeLine line = .lineNoise line) ∧
    (2 < line.length → line.take 2 = [0x06, 0x09] → decodeLine line = .lineStart (line.drop 2)) ∧
    (2 < line.length → line.take 2 = [0x04, 0x14] → decodeLine line = .lineCont (line.drop 2)) ∧
    (2 < line.length → line.take 2 ≠ [0x06, 0x09] → line.take 2 ≠ [0x04, 0x14] →
      ∃ marker : Word16, decodeLine line = .lineOther marker (line.drop 2) ∧ line.take 2 = be16 marker)

/-- 43_message_codec.md R190; the class of a message agrees with it, no byte of the message is lost, and a message that is no response is
discarded without an error. -/
def Obligations.ResponsesAreOpOneAndThree : Prop :=
  ∀ msg : Bytes,
    (isResponse msg = true ↔ 8 ≤ msg.length ∧ ((msg.headD 0).toNat % 8 = 1 ∨ (msg.headD 0).toNat % 8 = 3)) ∧
    ((∃ hdr payload, decodeMessage msg = .msgReadResponse hdr payload) ↔
      8 ≤ msg.length ∧ (msg.headD 0).toNat % 8 = 1) ∧
    ((∃ hdr payload, decodeMessage msg = .msgWriteResponse hdr payload) ↔
      8 ≤ msg.length ∧ (msg.headD 0).toNat % 8 = 3) ∧
    (isResponse msg = false ↔ decodeMessage msg = .msgNonresponse msg) ∧
    encode (decodeMessage msg) = msg ∧
    (isResponse msg = false → ∀ s : State, exec (decodeMessage msg) s = .next { s with scan := .lines })

/-! Codec primitives. -/

/-- The CRC over a message and its own CRC is 0, and CrcOk is that the CRC over the whole buffer is 0. It follows from
40_codec_primitives.md R100–R102; R108, which says it, is marked there as general knowledge, an inference of the spec's own (log 23). -/
def Obligations.CrcResidueIsZero : Prop :=
  (∀ (init : Word16) (m : Bytes), crc16 init (m ++ be16 (crc16 init m)) = 0) ∧
  ∀ (init : Word16) (buf : Bytes), 2 ≤ buf.length → (crcOk init buf = true ↔ crc16 init buf = 0)

/-- 42_frame_decoder.md R167: a checksummed buffer changed within one burst of at most 16 consecutive bits fails the CRC check. The
burst is the non-zero 16-bit pattern `w`, shifted by `k` within three neighbouring bytes, or over the two bytes of the checksummed
empty message (40_codec_primitives.md R102). -/
def Obligations.CrcSeesEveryShortBurst : Prop :=
  (∀ (init w : Word16) (a b : Byte), checksum init [] = [a, b] → w ≠ 0 →
    crcOk init [a ^^^ w.extractLsb' 8 8, b ^^^ w.extractLsb' 0 8] = false) ∧
  ∀ (init : Word16) (m pre post : Bytes) (a b c : Byte) (w : Word16) (k : Nat),
    checksum init m = pre ++ [a, b, c] ++ post → w ≠ 0 → k ≤ 8 →
    let p : BitVec 24 := w.zeroExtend 24 <<< k
    crcOk init (pre ++ [a ^^^ p.extractLsb' 16 8, b ^^^ p.extractLsb' 8 8, c ^^^ p.extractLsb' 0 8] ++ post) = false

/-- 40_codec_primitives.md R104, R106: decoding undoes encoding; the text has four characters for every three bytes or part of three, and
neither `'\n'` nor `'\r'`. -/
def Obligations.BaseSixtyFourReadsBack : Prop :=
  ∀ d : Bytes, b64Decode (b64Encode d) = some d ∧ (b64Encode d).length = 4 * ((d.length + 2) / 3) ∧
    (0x0A : Byte) ∉ b64Encode d ∧ (0x0D : Byte) ∉ b64Encode d

/-- 40_codec_primitives.md R107: encoding is piecewise at multiples of three bytes. -/
def Obligations.QuantumAlignment : Prop :=
  ∀ a b : Bytes, a.length % 3 = 0 → b64Encode (a ++ b) = b64Encode a ++ b64Encode b

/-- 40_codec_primitives.md R103, R105: exactly these texts decode: whole quanta of alphabet characters, at most two `'='` at the very end;
and a text with `p` of them decodes to three bytes a quantum less `p`. R106: two texts that differ only in the bits of the last
symbol that padding drops (the low 4 of the second, the low 2 of the third) decode to the same bytes. -/
def Obligations.BaseSixtyFourAcceptsExactly : Prop :=
  (∀ t : Bytes, (b64Decode t).isSome = true ↔
    t.length % 4 = 0 ∧ ∃ (body : Bytes) (p : Nat), p ≤ 2 ∧ t = body ++ List.replicate p 0x3D ∧
      ∀ c ∈ body, (0x41 ≤ c.toNat ∧ c.toNat ≤ 0x5A) ∨ (0x61 ≤ c.toNat ∧ c.toNat ≤ 0x7A)
        ∨ (0x30 ≤ c.toNat ∧ c.toNat ≤ 0x39) ∨ c.toNat = 0x2B ∨ c.toNat = 0x2F) ∧
  (∀ (body d : Bytes) (p : Nat), p ≤ 2 → (0x3D : Byte) ∉ body → b64Decode (body ++ List.replicate p 0x3D) = some d →
    d.length + p = 3 * ((body.length + p) / 4)) ∧
  (∀ (body : Bytes) (c0 c1 c1' : Byte) (v v' : BitVec 6), b64Val c1 = some v → b64Val c1' = some v' → v >>> 4 = v' >>> 4 →
    b64Decode (body ++ [c0, c1, 0x3D, 0x3D]) = b64Decode (body ++ [c0, c1', 0x3D, 0x3D])) ∧
  ∀ (body : Bytes) (c0 c1 c2 c2' : Byte) (v v' : BitVec 6), b64Val c2 = some v → b64Val c2' = some v' → v >>> 2 = v' >>> 2 →
    b64Decode (body ++ [c0, c1, c2, 0x3D]) = b64Decode (body ++ [c0, c1, c2', 0x3D])

/-! The frame encoder. -/

/-- 41_frame_encoder.md R130, R139: Encode answers lines for every message of up to 65533 bytes, and faults beyond. -/
def Obligations.EncodeIsTotalToItsBound : Prop :=
  ∀ (init : Word16) (m : Bytes),
    (m.length ≤ 65533 → ∃ lines, encodeMessage init m = .ok lines ∧ lines ≠ []) ∧
    (65533 < m.length → encodeMessage init m = .error .encodeRange)

/-- 41_frame_encoder.md R135, R137: how many lines a message takes, and that every line is a marker and text, at most 127 bytes, ended by
its only `0A`, without `0D`; the Start line is the first and the only one with its marker. -/
def Obligations.LinesOfEveryMessage : Prop :=
  ∀ (init : Word16) (m : Bytes) (lines : List Bytes), encodeMessage init m = .ok lines →
    lines.length = 1 + (m.length + 2 - 91 + 92) / 93 ∧
    (∀ line ∈ lines, line.length ≤ 127 ∧ line.getLast? = some 0x0A ∧ line.count 0x0A = 1 ∧ (0x0D : Byte) ∉ line) ∧
    (∀ line ∈ lines.take 1, line.take 2 = [0x06, 0x09]) ∧
    ∀ line ∈ lines.drop 1, line.take 2 = [0x04, 0x14]

/-! The frame decoder. -/

/-- 42_frame_decoder.md R150, R152: only the leading CR and LF bytes of a fresh accumulation are dropped, and two reads feed what their
concatenation feeds. -/
def Obligations.FeedStripsOnlyLeadingCrLf : Prop :=
  (∀ (bs : Bytes) (s : State), decFeed bs s =
    { s with acc := s.acc ++ keptBytes s.fresh bs, fresh := s.fresh && (keptBytes s.fresh bs).isEmpty }) ∧
  ∀ (as bs : Bytes) (s : State), decFeed bs (decFeed as s) = decFeed (as ++ bs) s

/-- 42_frame_decoder.md R166: fed with the lines of a message, split into reads at any points, the decoder asks for more until the last
byte, and then gives the message back if it is a response. -/
def Obligations.DecoderReadsBackTheEncoder : Prop :=
  ∀ (init : Word16) (m : Bytes) (lines pre : List Bytes) (last : Bytes),
    encodeMessage init m = .ok lines → pre.flatten ++ last = lines.flatten → last ≠ [] →
    pollTrace init DecRegs.init (pre ++ [last]) =
      List.replicate pre.length .needMore ++ [if isResponse m then .ok m else .needMore]

/-- LINE_START (42_frame_decoder.md R157, R161, R162, in the order of R165): malformed text, a text of fewer than 2 bytes and a declared
length below 2 fail; else a new collection begins, whatever was collected before. -/
def Obligations.StartLineBeginsACollection : Prop :=
  ∀ (text : Bytes) (s : State),
    (b64Decode text = none → exec (.lineStart text) s = .next (failedWith .integrity 2 s)) ∧
    (∀ d, b64Decode text = some d → d.length < 2 → exec (.lineStart text) s = .next (failedWith .integrity 2 s)) ∧
    ∀ hi lo rbuf, b64Decode text = some (hi :: lo :: rbuf) →
      exec (.lineStart text) s = .next (if hi.toNat * 256 + lo.toNat < 2 then failedWith .integrity 3 s
        else collected (hi.toNat * 256 + lo.toNat) rbuf s)

/-- LINE_CONT (42_frame_decoder.md R158, R159, R161, R162): discarded undecoded while idle; else decoded and appended. A declared length
below 2 is never collected (R157; the invariant `SessionInv.collecting` says so). -/
def Obligations.ContinuationLineExtendsTheCollection : Prop :=
  ∀ (text : Bytes) (s : State),
    (s.rsm = .idle → exec (.lineCont text) s = .next s) ∧
    ∀ (decl : Word16) (rbuf : Bytes), s.rsm = .collect decl rbuf → 2 ≤ decl.toNat →
      (b64Decode text = none → exec (.lineCont text) s = .next (failedWith .integrity 2 s)) ∧
      ∀ d, b64Decode text = some d → exec (.lineCont text) s = .next (collected decl.toNat (rbuf ++ d) s)

/-- LINE_NOISE and LINE_OTHER change nothing (42_frame_decoder.md R154, R156). -/
def Obligations.NoiseAndOtherLinesRun : Prop :=
  ∀ (line rest : Bytes) (marker : Word16) (s : State),
    exec (.lineNoise line) s = .next s ∧ exec (.lineOther marker rest) s = .next s

/-- 42_frame_decoder.md R154, R156, R159: while DecPoll scans, a line of at most 2 bytes, one with an unknown marker, and an idle
Continuation line are removed from ACC, and nothing else changes. -/
def Obligations.IgnoredLinesLeaveTheCollection : Prop :=
  ∀ (s : State) (line rest : Bytes), s.resetLine = false → s.emits = [] → s.scan = .lines →
    s.acc = line ++ 0x0A :: rest → (0x0A : Byte) ∉ line →
    (line.length ≤ 2 ∨ (line.take 2 ≠ [0x06, 0x09] ∧ line.take 2 ≠ [0x04, 0x14])
      ∨ (line.take 2 = [0x04, 0x14] ∧ s.rsm = .idle)) →
    step s = .next { s with acc := rest }

/-- 42_frame_decoder.md R153, 44_upload_engine.md R218: with no complete line in ACC the decoder asks for another read, with the same
deadline. -/
def Obligations.NoLineAsksForMore : Prop :=
  ∀ s : State, s.resetLine = false → s.emits = [] → s.scan = .lines → (0x0A : Byte) ∉ s.acc →
    step s = .next { s with scan := .off, emits := [.read s.deadline] }

/-! Messages. -/

/-- A received response (43_message_codec.md R191–R193, 44_upload_engine.md R218, R221): its payload alone decides, and every integer RC
and ACK has an outcome; its header is ignored (R195). -/
def Obligations.ResponseIsAnswered : Prop :=
  ∀ (hdr : Header) (payload : Bytes) (s : State),
    exec (.msgReadResponse hdr payload) s = .next (answered payload s) ∧
    exec (.msgWriteResponse hdr payload) s = .next (answered payload s)

/-- 42_frame_decoder.md R163: a message that is no response is discarded and scanning resumes. -/
def Obligations.NonresponseResumesTheScan : Prop :=
  ∀ (msg : Bytes) (s : State), exec (.msgNonresponse msg) s = .next { s with scan := .lines }

/-- The four request builders (43_message_codec.md R180–R185, R187–R189): the message with its header echo and back-filled length, and SEQ
incremented mod 256; a payload over 65535 bytes faults. That a call leaves its message in `built` is the model's (log 4),
and so is that an upload builder takes operands which are not the image's own size, offset and bytes (log 28). -/
def Obligations.RequestBuildersBuild : Prop :=
  ∀ (s : State) (i : Instr) (group : Word16) (id : Byte) (fields : List (Config.Key × Config.Value)),
    ((∃ flag, i = .reqEchoCtrl flag ∧ group = 0 ∧ id = 1 ∧ fields = [(keyEcho, .int flag)]) ∨
     (i = .reqReset ∧ group = 0 ∧ id = 5 ∧ fields = []) ∨
     (∃ (size : Nat) (data : Bytes), i = .reqUploadSeg0 size data ∧ group = 1 ∧ id = 1 ∧ fields =
        [(keySha, .bytes []), (keyOff, .int 0), (keyLen, .int size), (keyData, .bytes data)]) ∨
     (∃ (offset : Nat) (data : Bytes), i = .reqUploadSegN offset data ∧ group = 1 ∧ id = 1 ∧ fields =
        [(keyOff, .int offset), (keyData, .bytes data)])) →
    ((requestPayload s.codec s.seq group id fields).length ≤ 65535 → exec i s = .next
      { s with seq := s.seq + 1, built := some (requestMessage s.codec s.seq group id fields) }) ∧
    (65535 < (requestPayload s.codec s.seq group id fields).length → exec i s = .fault .encodeRange)

/-! Events. -/

/-- START where it is admitted (44_upload_engine.md R210, R211): the configuration is loaded, EFF_CHUNK computed, every session and decoder
register at its power-on value (for those 10_state.md R46 leaves unspecified, the model's: log 5). -/
def Obligations.StartLoadsAndResets : Prop :=
  ∀ (size : Nat) (img : Bytes) (chunk tFirst tNext : Nat) (crcInit : Word16) (retries : Option Nat) (strict : Bool) (s : State),
    (s.engine = .idle ∨ s.engine = .done ∨ s.engine = .failed) → img.length = size → 64 ≤ chunk → chunk ≤ 2048 →
    exec (.start size img chunk tFirst tNext crcInit retries strict) s = .next
      { s with
        size := size, img := Memory.ofBytes img, chunkCfg := chunk, effChunk := chunk * 3 / 4 - 16, tFirst := tFirst,
        tNext := tNext, crcInit := crcInit, maxRetries := retries, strictOff := strict, engine := .prepareFirst, off := 0,
        cur := State.reset.cur, next := none, failCause := .none, failInfo := 0, tmo := .first,
        deadline := State.reset.deadline, acc := [], fresh := true, rsm := .idle, seq := 0, retry := 0,
        ack := State.reset.ack, rc := State.reset.rc, curLines := [], nextLines := none, result := none,
        outstanding := none, scan := .off }

/-- START elsewhere: a chunk size outside 64..2048 faults (10_state.md R22, 60_exceptions.md R257); during a transfer, or with an image that
is not S bytes long (log 16), START is refused (44_upload_engine.md R210, log 14). -/
def Obligations.StartIsTurnedAway : Prop :=
  ∀ (size : Nat) (img : Bytes) (chunk tFirst tNext : Nat) (crcInit : Word16) (retries : Option Nat) (strict : Bool) (s : State),
    let start := Instr.start size img chunk tFirst tNext crcInit retries strict
    ((s.engine = .idle ∨ s.engine = .done ∨ s.engine = .failed) → img.length = size → (chunk < 64 ∨ 2048 < chunk) →
      exec start s = .fault .configRange) ∧
    ((s.engine = .idle ∨ s.engine = .done ∨ s.engine = .failed) → img.length ≠ size →
      exec start s = .refused .imageSizeMismatch) ∧
    (s.engine ≠ .idle → s.engine ≠ .done → s.engine ≠ .failed → exec start s = .refused .startInTransfer)

/-- WR_OK (44_upload_engine.md R216, R217): the bytes of the WRITE have reached the device, NEXT is prepared where image bytes remain, and
the FCU awaits the answer with a fresh accumulation and a new deadline. `Config.now` is the environment's time (log 9). -/
def Obligations.WriteDonePreparesNext : Prop :=
  ∀ s : State, s.outstanding = some .write →
    let deadline : Nat := Config.now s.draws + (if s.tmo = .first then s.tFirst else s.tNext)
    let waiting : State := { s with
      wire := s.wire ++ s.curLines, engine := .awaitAck, acc := [], fresh := true, rsm := .idle, deadline := deadline,
      draws := s.draws + 1, outstanding := none, emits := s.emits ++ [.read deadline] }
    let n : Segment := ⟨s.cur.off + s.cur.len, min (s.size - (s.cur.off + s.cur.len)) s.effChunk, .segN⟩
    (s.size ≤ s.cur.off + s.cur.len → exec .wrOk s = .next { waiting with next := none, nextLines := none }) ∧
    (s.cur.off + s.cur.len < s.size → (segmentMessage s n).length ≤ 65533 →
      ∃ lines, encodeMessage s.crcInit (segmentMessage s n) = .ok lines ∧
        exec .wrOk s = .next { waiting with next := some n, nextLines := some lines.flatten, seq := s.seq + 1 }) ∧
    (s.cur.off + s.cur.len < s.size → 65533 < (segmentMessage s n).length → exec .wrOk s = .fault .encodeRange)

/-- WR_ERR and RD_ERR (44_upload_engine.md R220, 60_exceptions.md R252): the transfer fails at once. Of a failed WRITE some prefix has reached
the device (how long: log 10; when it counts as delivered: log 11; 20_memory.md R58). -/
def Obligations.TransportErrorsFailAtOnce : Prop :=
  ∀ s : State,
    (s.outstanding = some .write → ∃ sent : Nat, exec .wrErr s = .next
      (failedWith .transportWrite s.cur.off { s with wire := s.wire ++ s.curLines.take sent, draws := s.draws + 1 })) ∧
    (s.outstanding = some .read → exec .rdErr s = .next (failedWith .transportRead s.cur.off s))

/-- RD_TIMEOUT goes to Retransmit (44_upload_engine.md R219). -/
def Obligations.TimeoutGoesToRetransmit : Prop :=
  ∀ s : State, s.outstanding = some .read →
    exec .rdTimeout s = .next { s with outstanding := none, engine := .retransmit }

/-- RD_DATA feeds the decoder and begins its scan (44_upload_engine.md R218; the scan's own steps: log 1). -/
def Obligations.ReadDataFeedsTheDecoder : Prop :=
  ∀ (bs : Bytes) (s : State), s.outstanding = some .read → exec (.rdData bs) s = .next
    { s with
      acc := s.acc ++ keptBytes s.fresh bs, fresh := s.fresh && (keptBytes s.fresh bs).isEmpty, outstanding := none,
      scan := .lines }

/-- The output events (44_upload_engine.md R222, R223, 60_exceptions.md R262, R271): each leaves at the port; WRITE and READ then await an
answer. The record `out` is the model's (log 11). -/
def Obligations.OutputEventsLeaveAtThePort : Prop :=
  ∀ (bs : Bytes) (deadline : Nat) (offset info : Int) (code : ResultCode) (cause : FailCause) (s : State),
    exec (.write bs) s = .next { s with out := s.out ++ [.write bs], outstanding := some .write } ∧
    exec (.read deadline) s = .next { s with out := s.out ++ [.read deadline], outstanding := some .read } ∧
    exec (.progress offset) s = .next { s with out := s.out ++ [.progress offset] } ∧
    exec (.result code cause info) s = .next { s with out := s.out ++ [.result code cause info] }

/-- An answer that the outstanding operation does not ask for is refused (30_encoding.md R86; 93_implementation_defined.md U16, log 14). -/
def Obligations.WrongAnswersAreRefused : Prop :=
  ∀ (bs : Bytes) (s : State),
    (s.outstanding ≠ some .write →
      exec .wrOk s = .refused .unexpectedAnswer ∧ exec .wrErr s = .refused .unexpectedAnswer) ∧
    (s.outstanding ≠ some .read →
      exec (.rdData bs) s = .refused .unexpectedAnswer ∧ exec .rdTimeout s = .refused .unexpectedAnswer ∧
      exec .rdErr s = .refused .unexpectedAnswer)

/-- The line-by-line work that RD_DATA begins comes to the spec's one rule (44_upload_engine.md R218, 42_frame_decoder.md R150–R164): after
finitely many steps the state is the one that DecFeed, DecPoll and DecodeResponse give. That it takes several steps is the model's
choice (log 1). -/
def Obligations.ReadDataRunsDecPoll : Prop :=
  ∀ (bs : Bytes) (s : State), s.resetLine = false → s.emits = [] → s.outstanding = some .read →
    ∃ t k, exec (.rdData bs) s = .next t ∧ Host.Core.run Sys2Proof.core k t = .next (rdDataWhole bs s)

/-- A response received whole, in one read of a fresh accumulation, is answered, whatever its length (42_frame_decoder.md R166,
44_upload_engine.md R218, R221). That it takes several steps is the model's choice (log 1). -/
def Obligations.WholeResponseIsAnswered : Prop :=
  ∀ (m : Bytes) (lines : List Bytes) (s : State),
    s.resetLine = false → s.emits = [] → s.outstanding = some .read → s.acc = [] → s.fresh = true → s.rsm = .idle →
    isResponse m = true → encodeMessage s.crcInit m = .ok lines →
    ∃ t k, exec (.rdData lines.flatten) s = .next t ∧
      Host.Core.run Sys2Proof.core k t = .next (answered (m.drop 8) { s with fresh := false, outstanding := none })

/-! The engine's own transitions. -/

/-- PrepareFirst (44_upload_engine.md R212, R213, R215); a request over 65533 bytes faults (41_frame_encoder.md R130, 43_message_codec.md
R181, 60_exceptions.md R257). -/
def Obligations.PrepareFirstBuildsSegmentZero : Prop :=
  ∀ s : State, quiet s → s.engine = .prepareFirst →
    let cur : Segment := ⟨0, min 32 s.size, .seg0⟩
    ((segmentMessage s cur).length ≤ 65533 → ∃ lines, encodeMessage s.crcInit (segmentMessage s cur) = .ok lines ∧
      step s = .next { s with
        off := 0, cur := cur, tmo := .first, retry := 0, next := none, nextLines := none, curLines := lines.flatten,
        seq := s.seq + 1, engine := .sendAndPrepareNext, emits := [.write lines.flatten] }) ∧
    (65533 < (segmentMessage s cur).length → step s = .fault .encodeRange)

/-- Retransmit (44_upload_engine.md R224, R228, R229): at the bound the transfer fails; else the same segment is built again with the next
SEQ, and OFF and CUR stay. -/
def Obligations.RetransmitRebuildsTheSegment : Prop :=
  ∀ s : State, quiet s → s.engine = .retransmit →
    (∀ k, s.maxRetries = some k → k ≤ s.retry → step s = .next (failedWith .retryExhausted s.cur.off s)) ∧
    ((∀ k, s.maxRetries = some k → s.retry < k) → s.cur.off + s.cur.len ≤ s.size →
      ((segmentMessage s s.cur).length ≤ 65533 → ∃ lines, encodeMessage s.crcInit (segmentMessage s s.cur) = .ok lines ∧
        step s = .next { s with
          retry := s.retry + 1, tmo := if s.cur.off = 0 then .first else .next, curLines := lines.flatten,
          seq := s.seq + 1, engine := .sendAndPrepareNext, emits := [.write lines.flatten] }) ∧
      (65533 < (segmentMessage s s.cur).length → step s = .fault .encodeRange))

/-- Advance (44_upload_engine.md R225): the prepared segment and its lines become the current ones, not rebuilt. -/
def Obligations.AdvanceAdoptsTheNextSegment : Prop :=
  ∀ (s : State) (n : Segment) (lines : Bytes) (ack : Nat), quiet s → s.engine = .advance → s.next = some n →
    s.nextLines = some lines → s.ack = ack →
    let adopted : State := { s with
      cur := n, curLines := lines, off := ack, tmo := .next, retry := 0, next := none, nextLines := none }
    (ack ≠ s.size → step s = .next { adopted with engine := .sendAndPrepareNext, emits := [.write lines] }) ∧
    (ack = s.size → step s = .next { adopted with
      engine := .done, result := some .success, outstanding := none, emits := [.result .success .none 0] })

/-- 44_upload_engine.md R232: Advance always finds NEXT, with its offset acknowledged, and leaves with OFF below S. -/
def Obligations.AdvanceNeverMeetsTheEnd : Prop :=
  ∀ s : State, Inv s → quiet s → s.engine = .advance →
    ∃ n t, s.next = some n ∧ s.ack = n.off ∧ step s = .next t ∧ t.off = n.off ∧ t.off < t.size ∧
      t.engine = .sendAndPrepareNext

/-- 44_upload_engine.md R212, R214: the segments from segment 0 on, one after the other, carry the image, every byte once and in order. -/
def Obligations.SegmentsTileTheImage : Prop :=
  ∀ (size effChunk : Nat) (img : List Host.Cell), 1 ≤ effChunk →
    ((segmentsFrom size effChunk (size + 1) ⟨0, min 32 size, .seg0⟩).flatMap fun g =>
      (List.range g.len).map fun k => Memory.read img (g.off + k)) = (List.range size).map (Memory.read img)

/-- 44_upload_engine.md R214: NextSegment, and that a segment it returns is not empty. -/
def Obligations.NextSegmentFollows : Prop :=
  ∀ (size effChunk : Nat) (cur : Segment),
    (size ≤ cur.off + cur.len → nextSegment size effChunk cur = none) ∧
    (cur.off + cur.len < size →
      nextSegment size effChunk cur
        = some ⟨cur.off + cur.len, min (size - (cur.off + cur.len)) effChunk, .segN⟩ ∧
      (1 ≤ effChunk → 1 ≤ min (size - (cur.off + cur.len)) effChunk))

/-- 00_scope.md R11, 20_memory.md R50: after START, MemRead gives the slice of the image, and faults beyond S. -/
def Obligations.ImageReadsBackAsLoaded : Prop :=
  ∀ (size : Nat) (img : Bytes) (chunk tFirst tNext : Nat) (crcInit : Word16) (retries : Option Nat) (strict : Bool) (s t : State),
    exec (.start size img chunk tFirst tNext crcInit retries strict) s = .next t → ∀ addr n : Nat,
      (addr + n ≤ size → memRead addr n t = .ok ((img.drop addr).take n)) ∧
      (size < addr + n → memRead addr n t = .error .imageRange)

/-! The step. -/

/-- A step runs the instruction at the head of what is pending: the emitted events, the checked message, the first line of ACC, a
request-builder call between transfers, an input event in store or else a standing one, in this order (log 1, 2, 20, 26). -/
def Obligations.StepRunsTheDecodedInstruction : Prop :=
  ∀ s : State, s.resetLine = false →
    (∀ e es, s.emits = e :: es → step s = exec e.instr { s with emits := es }) ∧
    (s.emits = [] →
      (∀ m i rest, s.scan = .message m → decode .message m = .ok (i, rest) → step s = exec i s) ∧
      (∀ i rest, s.scan = .lines → decode .line s.acc = .ok (i, rest) → step s = exec i { s with acc := rest }) ∧
      (s.scan = .off → s.engine ≠ .prepareFirst → s.engine ≠ .retransmit → s.engine ≠ .advance →
        (¬ callsWait s → ∀ i rest, decode .request s.calls = .ok (i, rest) → step s = exec i { s with calls := rest }) ∧
        (s.calls = [] ∨ callsWait s → ∀ i rest, outEvent? i = none →
          decode .event (if s.port = [] then s.standing else s.port) = .ok (i, rest) → step s = exec i { s with port := rest })))

/-- With nothing to do and no event in store or standing the machine is stuck (70_reset_and_hazards.md R292, log 13); an event of direction out and
bytes that are no event are refused at the input (30_encoding.md R86, log 14, 15). -/
def Obligations.WithoutAnEventTheMachineWaits : Prop :=
  ∀ s : State, quiet s → s.engine ≠ .prepareFirst → s.engine ≠ .retransmit → s.engine ≠ .advance →
    s.calls = [] ∨ callsWait s →
    (s.port = [] → s.standing = [] → step s = .refused .awaitingEvent) ∧
    (∀ i rest e, decodeEvent (inputBytes s) = .ok (i, rest) → outEvent? i = some e → step s = .refused .outputAtInput) ∧
    (∀ e, inputBytes s ≠ [] → decodeEvent (inputBytes s) = .error e → step s = .refused (.undecodable e))

/-- 70_reset_and_hazards.md R280: power-on reset, at any time, puts the registers for which 10_state.md R46 gives a value at that value,
and emits nothing. The stores of the environment and the codec stand (log 12). -/
def Obligations.PowerOnResetAtAnyTime : Prop :=
  ∀ s : State, s.resetLine = true → ∃ t, step s = .next t ∧
    t.engine = .idle ∧ t.off = 0 ∧ t.next = none ∧ t.failCause = .none ∧ t.failInfo = 0 ∧ t.tmo = .first ∧ t.acc = [] ∧
    t.fresh = true ∧ t.rsm = .idle ∧ t.seq = 0 ∧ t.retry = 0 ∧ t.curLines = [] ∧ t.nextLines = none ∧ t.result = none ∧
    t.emits = [] ∧ t.port = s.port ∧ t.standing = s.standing ∧ t.calls = s.calls ∧ t.codec = s.codec

/-- 10_state.md R46: the registers for which the spec gives a power-on value hold it in the reset state. -/
def Obligations.ResetValuesOfTheSpec : Prop :=
  let t := State.reset
  t.engine = .idle ∧ t.off = 0 ∧ t.next = none ∧ t.failCause = .none ∧ t.failInfo = 0 ∧ t.tmo = .first ∧ t.acc = [] ∧
    t.fresh = true ∧ t.rsm = .idle ∧ t.seq = 0 ∧ t.retry = 0 ∧ t.curLines = [] ∧ t.nextLines = none ∧ t.result = none

/-- 70_reset_and_hazards.md R281: START, then PrepareFirst, leave the session as the rule lists it. -/
def Obligations.StartOpensASession : Prop :=
  ∀ (size : Nat) (img : Bytes) (chunk tFirst tNext : Nat) (crcInit : Word16) (retries : Option Nat) (strict : Bool) (s : State),
    (s.engine = .idle ∨ s.engine = .done ∨ s.engine = .failed) → img.length = size → 64 ≤ chunk → chunk ≤ 2048 →
    s.resetLine = false → s.emits = [] →
    (requestPayload s.codec 0 1 1 [(keySha, .bytes []), (keyOff, .int 0), (keyLen, .int size),
      (keyData, .bytes (img.take 32))]).length ≤ 65525 →
    ∃ t u, exec (.start size img chunk tFirst tNext crcInit retries strict) s = .next t ∧ step t = .next u ∧
      u.size = size ∧ u.img = Memory.ofBytes img ∧ u.chunkCfg = chunk ∧ u.effChunk = chunk * 3 / 4 - 16 ∧ u.tFirst = tFirst ∧ u.tNext = tNext ∧
      u.crcInit = crcInit ∧ u.maxRetries = retries ∧ u.strictOff = strict ∧ u.off = 0 ∧
      u.cur = ⟨0, min 32 size, .seg0⟩ ∧ u.tmo = .first ∧ u.seq = 1 ∧ u.rsm = .idle ∧ u.fresh = true ∧ u.acc = [] ∧
      u.next = none ∧ u.nextLines = none ∧ u.retry = 0 ∧ u.failCause = .none ∧ u.failInfo = 0 ∧ u.result = none ∧
      u.engine = .sendAndPrepareNext

/-! Whole-machine rules. -/

/-- The reset state meets the invariants. `Inv` holds there by the power-on values of CUR, S, IMG and MAX_RETRIES that the model chose
(log 5, log 6): 10_state.md R46 leaves them unspecified, and R45 does not speak of Idle. -/
def Obligations.ResetMeetsTheInvariants : Prop := Inv State.reset ∧ WireInv State.reset ∧ OneInFlight State.reset

/-- Every step keeps the invariant of the session registers, the image and the port (10_state.md R45, 44_upload_engine.md R228, R231,
R232, R235). -/
def Obligations.EveryStepKeepsTheInvariant : Prop := ∀ s t : State, Inv s → step s = .next t → Inv t

/-- Every step keeps: the lines sent are a build of CUR, the lines prepared a build of NEXT (10_state.md R42, R43,
44_upload_engine.md R213, R216, R225). -/
def Obligations.EveryStepKeepsTheLines : Prop := ∀ s t : State, WireInv s → step s = .next t → WireInv t

/-- 44_upload_engine.md R233, 70_reset_and_hazards.md R286: every step keeps one request in flight: between two WRITEs there is a READ or a
RESULT. -/
def Obligations.OneRequestInFlight : Prop := ∀ s t : State, Inv s → OneInFlight s → step s = .next t → OneInFlight t

/-- While a transfer is in progress or a WRITE or READ awaits its answer, no request-builder call runs; it stays in store. That a call
waits is the model's reading (DEDUCED, log 20) of 20_memory.md R61 ("No parallelism within a transfer") and R64, neither of which
speaks of builder calls. -/
def Obligations.CallsWaitForTheTransfer : Prop :=
  ∀ s t : State, s.resetLine = false → callsWait s → step s = .next t → t.calls = s.calls ∧ t.built = s.built

/-- 44_upload_engine.md R231, R234: during a transfer OFF changes only in Advance, to the end of the segment in flight, and CUR then becomes
the segment that NextSegment gives; so OFF never falls and never exceeds S. -/
def Obligations.CommittedOffsetOnlyAdvances : Prop :=
  ∀ s t : State, Inv s → s.resetLine = false → s.engine ≠ .prepareFirst → step s = .next t → t.engine ≠ .prepareFirst →
    s.off ≤ t.off ∧ t.off ≤ t.size ∧
    ((t.off = s.off ∧ t.cur = s.cur) ∨
      (s.engine = .advance ∧ t.off = s.cur.off + s.cur.len ∧ nextSegment s.size s.effChunk s.cur = some t.cur))

/-- 10_state.md R28, R29, 20_memory.md R50: no step but START's writes a configuration register or the image, and no step the codec. -/
def Obligations.OnlyStartWritesTheConfiguration : Prop :=
  ∀ s t : State, step s = .next t → t.codec = s.codec ∧ (s.resetLine = false → configOf t = configOf s ∨
    ((s.engine = .idle ∨ s.engine = .done ∨ s.engine = .failed) ∧ ∃ size img chunk tFirst tNext crcInit retries strict rest,
      decodeEvent (inputBytes s) = .ok (.start size img chunk tFirst tNext crcInit retries strict, rest) ∧
      configOf t
        = (size, Memory.ofBytes img, chunk, chunk * 3 / 4 - 16, tFirst, tNext, crcInit, retries, strict)))

/-- 60_exceptions.md R265: the only way out of Done and Failed is a new START or power-on reset; until then the session and decoder
registers, RETRY, ACK, RC and the lines stand (44_upload_engine.md R226). SEQ is not among them: a request-builder call moves it
(43_message_codec.md R189, log 20). -/
def Obligations.TerminalStatesAreLeftByStartOnly : Prop :=
  ∀ s t : State, Inv s → s.resetLine = false → (s.engine = .done ∨ s.engine = .failed) → step s = .next t →
    (t.engine = s.engine ∧ t.result = s.result ∧ t.failCause = s.failCause ∧ t.failInfo = s.failInfo ∧ t.off = s.off ∧
      t.cur = s.cur ∧ t.next = s.next ∧ t.tmo = s.tmo ∧ t.deadline = s.deadline ∧ t.acc = s.acc ∧ t.fresh = s.fresh ∧
      t.rsm = s.rsm ∧ t.retry = s.retry ∧ t.ack = s.ack ∧ t.rc = s.rc ∧ t.curLines = s.curLines ∧
      t.nextLines = s.nextLines) ∨
    (t.engine = .prepareFirst ∧ ∃ size img chunk tFirst tNext crcInit retries strict rest,
      decodeEvent (inputBytes s) = .ok (.start size img chunk tFirst tNext crcInit retries strict, rest))

/-- 60_exceptions.md R251, R271: a step that reaches Failed emits RESULT(1, FAIL_CAUSE, FAIL_INFO) and leaves OFF, CUR, NEXT; one that
reaches Done emits RESULT(0). -/
def Obligations.EveryEndIsReported : Prop :=
  ∀ s t : State, s.resetLine = false → step s = .next t →
    (s.engine ≠ .failed → t.engine = .failed →
      t.emits.getLast? = some (.result .failure t.failCause t.failInfo) ∧ t.result = some .failure ∧
      t.failCause ≠ .none ∧ t.off = s.off ∧ t.cur = s.cur ∧ t.next = s.next) ∧
    (s.engine ≠ .done → t.engine = .done →
      t.emits.getLast? = some (.result .success .none 0) ∧ t.result = some .success)

/-- 43_message_codec.md R189: outside START and power-on reset, SEQ stays or moves to the next value mod 256. -/
def Obligations.SequenceMovesByOne : Prop :=
  ∀ s t : State, s.resetLine = false → step s = .next t →
    t.seq = s.seq ∨ t.seq = s.seq + 1 ∨ (t.engine = .prepareFirst ∧ t.seq = 0)

/-- 60_exceptions.md R257: from states that keep the invariant, no image read leaves the image and no continuation chunk is empty. -/
def Obligations.NoImageOrChunkFault : Prop :=
  ∀ (s : State) (f : Fault), Inv s → step s = .fault f → f = .configRange ∨ f = .encodeRange

/-- 60_exceptions.md R257, with the test instance of PAYLOAD_CODEC (92_eei_decisions.md D15; log 7, 8) and an image below 2^64 bytes: the engine
never faults but on a START whose chunk size is illegal. -/
def Obligations.EngineFaultsOnlyOnAnIllegalChunk : Prop :=
  ∀ (s : State) (f : Fault), Inv s → s.codec = .cbor → s.size < 2 ^ 64 → s.calls = [] ∨ callsWait s → step s = .fault f →
    f = .configRange ∧ ∃ size img chunk tFirst tNext crcInit retries strict rest,
      decodeEvent (inputBytes s) = .ok (.start size img chunk tFirst tNext crcInit retries strict, rest) ∧
      (chunk < 64 ∨ 2048 < chunk)

/-- 44_upload_engine.md R229: without a retry bound, a device that never answers makes the engine cycle for ever, and Retransmit never
fails. One round takes five steps of the model: RD_TIMEOUT, Retransmit, the WRITE's leaving, WR_OK, the READ's leaving. That the
environment answers for ever is the model's field `standing` (log 26). The premise on the lengths says that the codec makes no
oversized request of CUR or the segment after it. -/
def Obligations.EndlessRetransmitIsARun : Prop :=
  ∀ s : State, Inv s → s.resetLine = false → s.engine = .awaitAck → s.outstanding = some .read → s.maxRetries = none →
    neverAnswered s →
    (∀ q : BitVec 8, (segmentMessage { s with seq := q } s.cur).length ≤ 65533 ∧
      ∀ n, nextSegment s.size s.effChunk s.cur = some n → (segmentMessage { s with seq := q } n).length ≤ 65533) →
    (∀ k, ∃ t, Host.Core.run Sys2Proof.core k s = .next t) ∧
    ∀ n, ∃ t, Host.Core.run Sys2Proof.core (5 * n) s = .next t ∧ t.engine = .awaitAck ∧ t.outstanding = some .read ∧
      t.retry = s.retry + n ∧ t.off = s.off ∧ t.cur = s.cur
end

