-- ==== Sys2Proof/Laws/Memory.lean ====
section
/-! SUPPORT. The image: the canonical form is kept, and a loaded image reads back. -/

namespace Sys2Proof.Machine

theorem Memory.wfFrom_mono {m : List Host.Cell} {lo hi : Nat} (h : lo ≤ hi) (w : Memory.wfFrom hi m = true) :
    Memory.wfFrom lo m = true := by
  cases m with
  | nil => rfl
  | cons c rest =>
    obtain ⟨k, v⟩ := c
    simp only [Memory.wfFrom, Bool.and_eq_true, decide_eq_true_eq] at w ⊢
    exact ⟨⟨Nat.le_trans h w.1.1, w.1.2⟩, w.2⟩

theorem Memory.cellsFrom_wfFrom (a : Nat) (bs : Bytes) : Memory.wfFrom a (Memory.cellsFrom a bs) = true := by
  induction bs generalizing a with
  | nil => rfl
  | cons b bs ih =>
    rw [Memory.cellsFrom]
    split
    · exact Memory.wfFrom_mono (Nat.le_succ a) (ih (a + 1))
    · next hb => simpa [Memory.wfFrom, ih (a + 1)] using hb

/-- The one write to the image keeps its canonical form. -/
theorem Memory.ofBytes_wf (bs : Bytes) : Memory.wf (Memory.ofBytes bs) = true := Memory.cellsFrom_wfFrom 0 bs

/-- The image after power-on reset is in canonical form. -/
theorem Memory.reset_wf : Memory.wf State.reset.img = true := rfl

theorem Memory.read_cellsFrom (bs : Bytes) (a k : Nat) :
    Memory.read (Memory.cellsFrom a bs) k = if a ≤ k then bs.getD (k - a) Memory.unlisted else Memory.unlisted := by
  induction bs generalizing a with
  | nil => simp [Memory.cellsFrom, Memory.read]
  | cons b bs ih =>
    have key : Memory.read (Memory.cellsFrom a (b :: bs)) k =
        if a = k then b else Memory.read (Memory.cellsFrom (a + 1) bs) k := by
      rw [Memory.cellsFrom]
      split
      · next hb =>
        by_cases hk : a = k
        · subst hk; rw [ih]; simp [hb]
        · simp [hk]
      · simp [Memory.read]
    rw [key, ih]
    by_cases hk : a = k
    · subst hk; simp
    · rw [if_neg hk]
      by_cases hle : a ≤ k
      · obtain ⟨d, hd⟩ : ∃ d, k - a = d + 1 := ⟨k - a - 1, by omega⟩
        rw [if_pos (show a + 1 ≤ k by omega), if_pos hle, hd, show k - (a + 1) = d by omega]
        rfl
      · rw [if_neg (by omega), if_neg hle]

/-- A loaded image reads back byte by byte. -/
theorem Memory.read_ofBytes (bs : Bytes) (k : Nat) : Memory.read (Memory.ofBytes bs) k = bs.getD k Memory.unlisted := by
  simp [Memory.ofBytes, Memory.read_cellsFrom]

@[simp] theorem Memory.readRange_length (m : List Host.Cell) (a n : Nat) : (Memory.readRange m a n).length = n := by
  simp [Memory.readRange]

/-- Everything `memRead` can do (00_scope.md R11). -/
theorem memRead_ok_iff {addr n : Nat} {s : State} {d : Bytes} :
    memRead addr n s = .ok d ↔ addr + n ≤ s.size ∧ d = Memory.readRange s.img addr n := by
  unfold memRead
  split <;> simp_all [eq_comm]

/-- The one fault of `memRead`. -/
theorem memRead_error_iff {addr n : Nat} {s : State} {f : Fault} :
    memRead addr n s = .error f ↔ s.size < addr + n ∧ f = .imageRange := by
  unfold memRead
  split
  · simp; omega
  · simp [eq_comm]; omega

end Sys2Proof.Machine
end

