-- ==== Sys2Proof/Laws/State.lean ====
section
/-! SUPPORT. The field lemmas of the state: one per field per named update, each true by unfolding. -/

namespace Sys2Proof.Machine

/-! Fields after `emit e s`. -/

@[simp] theorem emit_size (e : OutEvent) (s : State) : (emit e s).size = s.size := rfl
@[simp] theorem emit_img (e : OutEvent) (s : State) : (emit e s).img = s.img := rfl
@[simp] theorem emit_chunkCfg (e : OutEvent) (s : State) : (emit e s).chunkCfg = s.chunkCfg := rfl
@[simp] theorem emit_effChunk (e : OutEvent) (s : State) : (emit e s).effChunk = s.effChunk := rfl
@[simp] theorem emit_tFirst (e : OutEvent) (s : State) : (emit e s).tFirst = s.tFirst := rfl
@[simp] theorem emit_tNext (e : OutEvent) (s : State) : (emit e s).tNext = s.tNext := rfl
@[simp] theorem emit_crcInit (e : OutEvent) (s : State) : (emit e s).crcInit = s.crcInit := rfl
@[simp] theorem emit_maxRetries (e : OutEvent) (s : State) : (emit e s).maxRetries = s.maxRetries := rfl
@[simp] theorem emit_strictOff (e : OutEvent) (s : State) : (emit e s).strictOff = s.strictOff := rfl
@[simp] theorem emit_engine (e : OutEvent) (s : State) : (emit e s).engine = s.engine := rfl
@[simp] theorem emit_off (e : OutEvent) (s : State) : (emit e s).off = s.off := rfl
@[simp] theorem emit_cur (e : OutEvent) (s : State) : (emit e s).cur = s.cur := rfl
@[simp] theorem emit_next (e : OutEvent) (s : State) : (emit e s).next = s.next := rfl
@[simp] theorem emit_failCause (e : OutEvent) (s : State) : (emit e s).failCause = s.failCause := rfl
@[simp] theorem emit_failInfo (e : OutEvent) (s : State) : (emit e s).failInfo = s.failInfo := rfl
@[simp] theorem emit_tmo (e : OutEvent) (s : State) : (emit e s).tmo = s.tmo := rfl
@[simp] theorem emit_deadline (e : OutEvent) (s : State) : (emit e s).deadline = s.deadline := rfl
@[simp] theorem emit_acc (e : OutEvent) (s : State) : (emit e s).acc = s.acc := rfl
@[simp] theorem emit_fresh (e : OutEvent) (s : State) : (emit e s).fresh = s.fresh := rfl
@[simp] theorem emit_rsm (e : OutEvent) (s : State) : (emit e s).rsm = s.rsm := rfl
@[simp] theorem emit_seq (e : OutEvent) (s : State) : (emit e s).seq = s.seq := rfl
@[simp] theorem emit_retry (e : OutEvent) (s : State) : (emit e s).retry = s.retry := rfl
@[simp] theorem emit_ack (e : OutEvent) (s : State) : (emit e s).ack = s.ack := rfl
@[simp] theorem emit_rc (e : OutEvent) (s : State) : (emit e s).rc = s.rc := rfl
@[simp] theorem emit_curLines (e : OutEvent) (s : State) : (emit e s).curLines = s.curLines := rfl
@[simp] theorem emit_nextLines (e : OutEvent) (s : State) : (emit e s).nextLines = s.nextLines := rfl
@[simp] theorem emit_result (e : OutEvent) (s : State) : (emit e s).result = s.result := rfl
@[simp] theorem emit_codec (e : OutEvent) (s : State) : (emit e s).codec = s.codec := rfl
@[simp] theorem emit_port (e : OutEvent) (s : State) : (emit e s).port = s.port := rfl
@[simp] theorem emit_standing (e : OutEvent) (s : State) : (emit e s).standing = s.standing := rfl
@[simp] theorem emit_calls (e : OutEvent) (s : State) : (emit e s).calls = s.calls := rfl
@[simp] theorem emit_emits (e : OutEvent) (s : State) : (emit e s).emits = s.emits ++ [e] := rfl
@[simp] theorem emit_out (e : OutEvent) (s : State) : (emit e s).out = s.out := rfl
@[simp] theorem emit_wire (e : OutEvent) (s : State) : (emit e s).wire = s.wire := rfl
@[simp] theorem emit_outstanding (e : OutEvent) (s : State) : (emit e s).outstanding = s.outstanding := rfl
@[simp] theorem emit_scan (e : OutEvent) (s : State) : (emit e s).scan = s.scan := rfl
@[simp] theorem emit_built (e : OutEvent) (s : State) : (emit e s).built = s.built := rfl
@[simp] theorem emit_draws (e : OutEvent) (s : State) : (emit e s).draws = s.draws := rfl
@[simp] theorem emit_resetLine (e : OutEvent) (s : State) : (emit e s).resetLine = s.resetLine := rfl

/-! Fields after `raiseFailure c i s`. -/

@[simp] theorem raiseFailure_size (c : FailCause) (i : Int) (s : State) : (raiseFailure c i s).size = s.size := rfl
@[simp] theorem raiseFailure_img (c : FailCause) (i : Int) (s : State) : (raiseFailure c i s).img = s.img := rfl
@[simp] theorem raiseFailure_chunkCfg (c : FailCause) (i : Int) (s : State) : (raiseFailure c i s).chunkCfg = s.chunkCfg := rfl
@[simp] theorem raiseFailure_effChunk (c : FailCause) (i : Int) (s : State) : (raiseFailure c i s).effChunk = s.effChunk := rfl
@[simp] theorem raiseFailure_tFirst (c : FailCause) (i : Int) (s : State) : (raiseFailure c i s).tFirst = s.tFirst := rfl
@[simp] theorem raiseFailure_tNext (c : FailCause) (i : Int) (s : State) : (raiseFailure c i s).tNext = s.tNext := rfl
@[simp] theorem raiseFailure_crcInit (c : FailCause) (i : Int) (s : State) : (raiseFailure c i s).crcInit = s.crcInit := rfl
@[simp] theorem raiseFailure_maxRetries (c : FailCause) (i : Int) (s : State) : (raiseFailure c i s).maxRetries = s.maxRetries := rfl
@[simp] theorem raiseFailure_strictOff (c : FailCause) (i : Int) (s : State) : (raiseFailure c i s).strictOff = s.strictOff := rfl
@[simp] theorem raiseFailure_engine (c : FailCause) (i : Int) (s : State) : (raiseFailure c i s).engine = .failed := rfl
@[simp] theorem raiseFailure_off (c : FailCause) (i : Int) (s : State) : (raiseFailure c i s).off = s.off := rfl
@[simp] theorem raiseFailure_cur (c : FailCause) (i : Int) (s : State) : (raiseFailure c i s).cur = s.cur := rfl
@[simp] theorem raiseFailure_next (c : FailCause) (i : Int) (s : State) : (raiseFailure c i s).next = s.next := rfl
@[simp] theorem raiseFailure_failCause (c : FailCause) (i : Int) (s : State) : (raiseFailure c i s).failCause = c := rfl
@[simp] theorem raiseFailure_failInfo (c : FailCause) (i : Int) (s : State) : (raiseFailure c i s).failInfo = i := rfl
@[simp] theorem raiseFailure_tmo (c : FailCause) (i : Int) (s : State) : (raiseFailure c i s).tmo = s.tmo := rfl
@[simp] theorem raiseFailure_deadline (c : FailCause) (i : Int) (s : State) : (raiseFailure c i s).deadline = s.deadline := rfl
@[simp] theorem raiseFailure_acc (c : FailCause) (i : Int) (s : State) : (raiseFailure c i s).acc = s.acc := rfl
@[simp] theorem raiseFailure_fresh (c : FailCause) (i : Int) (s : State) : (raiseFailure c i s).fresh = s.fresh := rfl
@[simp] theorem raiseFailure_rsm (c : FailCause) (i : Int) (s : State) : (raiseFailure c i s).rsm = s.rsm := rfl
@[simp] theorem raiseFailure_seq (c : FailCause) (i : Int) (s : State) : (raiseFailure c i s).seq = s.seq := rfl
@[simp] theorem raiseFailure_retry (c : FailCause) (i : Int) (s : State) : (raiseFailure c i s).retry = s.retry := rfl
@[simp] theorem raiseFailure_ack (c : FailCause) (i : Int) (s : State) : (raiseFailure c i s).ack = s.ack := rfl
@[simp] theorem raiseFailure_rc (c : FailCause) (i : Int) (s : State) : (raiseFailure c i s).rc = s.rc := rfl
@[simp] theorem raiseFailure_curLines (c : FailCause) (i : Int) (s : State) : (raiseFailure c i s).curLines = s.curLines := rfl
@[simp] theorem raiseFailure_nextLines (c : FailCause) (i : Int) (s : State) : (raiseFailure c i s).nextLines = s.nextLines := rfl
@[simp] theorem raiseFailure_result (c : FailCause) (i : Int) (s : State) : (raiseFailure c i s).result = some .failure := rfl
@[simp] theorem raiseFailure_codec (c : FailCause) (i : Int) (s : State) : (raiseFailure c i s).codec = s.codec := rfl
@[simp] theorem raiseFailure_port (c : FailCause) (i : Int) (s : State) : (raiseFailure c i s).port = s.port := rfl
@[simp] theorem raiseFailure_standing (c : FailCause) (i : Int) (s : State) : (raiseFailure c i s).standing = s.standing := rfl
@[simp] theorem raiseFailure_calls (c : FailCause) (i : Int) (s : State) : (raiseFailure c i s).calls = s.calls := rfl
@[simp] theorem raiseFailure_emits (c : FailCause) (i : Int) (s : State) : (raiseFailure c i s).emits = s.emits ++ [.result .failure c i] := rfl
@[simp] theorem raiseFailure_out (c : FailCause) (i : Int) (s : State) : (raiseFailure c i s).out = s.out := rfl
@[simp] theorem raiseFailure_wire (c : FailCause) (i : Int) (s : State) : (raiseFailure c i s).wire = s.wire := rfl
@[simp] theorem raiseFailure_outstanding (c : FailCause) (i : Int) (s : State) : (raiseFailure c i s).outstanding = none := rfl
@[simp] theorem raiseFailure_scan (c : FailCause) (i : Int) (s : State) : (raiseFailure c i s).scan = .off := rfl
@[simp] theorem raiseFailure_built (c : FailCause) (i : Int) (s : State) : (raiseFailure c i s).built = s.built := rfl
@[simp] theorem raiseFailure_draws (c : FailCause) (i : Int) (s : State) : (raiseFailure c i s).draws = s.draws := rfl
@[simp] theorem raiseFailure_resetLine (c : FailCause) (i : Int) (s : State) : (raiseFailure c i s).resetLine = s.resetLine := rfl

/-! Fields after `enterDone s`. -/

@[simp] theorem enterDone_size (s : State) : (enterDone s).size = s.size := rfl
@[simp] theorem enterDone_img (s : State) : (enterDone s).img = s.img := rfl
@[simp] theorem enterDone_chunkCfg (s : State) : (enterDone s).chunkCfg = s.chunkCfg := rfl
@[simp] theorem enterDone_effChunk (s : State) : (enterDone s).effChunk = s.effChunk := rfl
@[simp] theorem enterDone_tFirst (s : State) : (enterDone s).tFirst = s.tFirst := rfl
@[simp] theorem enterDone_tNext (s : State) : (enterDone s).tNext = s.tNext := rfl
@[simp] theorem enterDone_crcInit (s : State) : (enterDone s).crcInit = s.crcInit := rfl
@[simp] theorem enterDone_maxRetries (s : State) : (enterDone s).maxRetries = s.maxRetries := rfl
@[simp] theorem enterDone_strictOff (s : State) : (enterDone s).strictOff = s.strictOff := rfl
@[simp] theorem enterDone_engine (s : State) : (enterDone s).engine = .done := rfl
@[simp] theorem enterDone_off (s : State) : (enterDone s).off = s.off := rfl
@[simp] theorem enterDone_cur (s : State) : (enterDone s).cur = s.cur := rfl
@[simp] theorem enterDone_next (s : State) : (enterDone s).next = s.next := rfl
@[simp] theorem enterDone_failCause (s : State) : (enterDone s).failCause = s.failCause := rfl
@[simp] theorem enterDone_failInfo (s : State) : (enterDone s).failInfo = s.failInfo := rfl
@[simp] theorem enterDone_tmo (s : State) : (enterDone s).tmo = s.tmo := rfl
@[simp] theorem enterDone_deadline (s : State) : (enterDone s).deadline = s.deadline := rfl
@[simp] theorem enterDone_acc (s : State) : (enterDone s).acc = s.acc := rfl
@[simp] theorem enterDone_fresh (s : State) : (enterDone s).fresh = s.fresh := rfl
@[simp] theorem enterDone_rsm (s : State) : (enterDone s).rsm = s.rsm := rfl
@[simp] theorem enterDone_seq (s : State) : (enterDone s).seq = s.seq := rfl
@[simp] theorem enterDone_retry (s : State) : (enterDone s).retry = s.retry := rfl
@[simp] theorem enterDone_ack (s : State) : (enterDone s).ack = s.ack := rfl
@[simp] theorem enterDone_rc (s : State) : (enterDone s).rc = s.rc := rfl
@[simp] theorem enterDone_curLines (s : State) : (enterDone s).curLines = s.curLines := rfl
@[simp] theorem enterDone_nextLines (s : State) : (enterDone s).nextLines = s.nextLines := rfl
@[simp] theorem enterDone_result (s : State) : (enterDone s).result = some .success := rfl
@[simp] theorem enterDone_codec (s : State) : (enterDone s).codec = s.codec := rfl
@[simp] theorem enterDone_port (s : State) : (enterDone s).port = s.port := rfl
@[simp] theorem enterDone_standing (s : State) : (enterDone s).standing = s.standing := rfl
@[simp] theorem enterDone_calls (s : State) : (enterDone s).calls = s.calls := rfl
@[simp] theorem enterDone_emits (s : State) : (enterDone s).emits = s.emits ++ [.result .success .none 0] := rfl
@[simp] theorem enterDone_out (s : State) : (enterDone s).out = s.out := rfl
@[simp] theorem enterDone_wire (s : State) : (enterDone s).wire = s.wire := rfl
@[simp] theorem enterDone_outstanding (s : State) : (enterDone s).outstanding = none := rfl
@[simp] theorem enterDone_scan (s : State) : (enterDone s).scan = .off := rfl
@[simp] theorem enterDone_built (s : State) : (enterDone s).built = s.built := rfl
@[simp] theorem enterDone_draws (s : State) : (enterDone s).draws = s.draws := rfl
@[simp] theorem enterDone_resetLine (s : State) : (enterDone s).resetLine = s.resetLine := rfl

/-! Fields after `powerOnReset s`. -/

@[simp] theorem powerOnReset_size (s : State) : (powerOnReset s).size = State.reset.size := rfl
@[simp] theorem powerOnReset_img (s : State) : (powerOnReset s).img = State.reset.img := rfl
@[simp] theorem powerOnReset_chunkCfg (s : State) : (powerOnReset s).chunkCfg = State.reset.chunkCfg := rfl
@[simp] theorem powerOnReset_effChunk (s : State) : (powerOnReset s).effChunk = State.reset.effChunk := rfl
@[simp] theorem powerOnReset_tFirst (s : State) : (powerOnReset s).tFirst = State.reset.tFirst := rfl
@[simp] theorem powerOnReset_tNext (s : State) : (powerOnReset s).tNext = State.reset.tNext := rfl
@[simp] theorem powerOnReset_crcInit (s : State) : (powerOnReset s).crcInit = State.reset.crcInit := rfl
@[simp] theorem powerOnReset_maxRetries (s : State) : (powerOnReset s).maxRetries = State.reset.maxRetries := rfl
@[simp] theorem powerOnReset_strictOff (s : State) : (powerOnReset s).strictOff = State.reset.strictOff := rfl
@[simp] theorem powerOnReset_engine (s : State) : (powerOnReset s).engine = State.reset.engine := rfl
@[simp] theorem powerOnReset_off (s : State) : (powerOnReset s).off = State.reset.off := rfl
@[simp] theorem powerOnReset_cur (s : State) : (powerOnReset s).cur = State.reset.cur := rfl
@[simp] theorem powerOnReset_next (s : State) : (powerOnReset s).next = State.reset.next := rfl
@[simp] theorem powerOnReset_failCause (s : State) : (powerOnReset s).failCause = State.reset.failCause := rfl
@[simp] theorem powerOnReset_failInfo (s : State) : (powerOnReset s).failInfo = State.reset.failInfo := rfl
@[simp] theorem powerOnReset_tmo (s : State) : (powerOnReset s).tmo = State.reset.tmo := rfl
@[simp] theorem powerOnReset_deadline (s : State) : (powerOnReset s).deadline = State.reset.deadline := rfl
@[simp] theorem powerOnReset_acc (s : State) : (powerOnReset s).acc = State.reset.acc := rfl
@[simp] theorem powerOnReset_fresh (s : State) : (powerOnReset s).fresh = State.reset.fresh := rfl
@[simp] theorem powerOnReset_rsm (s : State) : (powerOnReset s).rsm = State.reset.rsm := rfl
@[simp] theorem powerOnReset_seq (s : State) : (powerOnReset s).seq = State.reset.seq := rfl
@[simp] theorem powerOnReset_retry (s : State) : (powerOnReset s).retry = State.reset.retry := rfl
@[simp] theorem powerOnReset_ack (s : State) : (powerOnReset s).ack = State.reset.ack := rfl
@[simp] theorem powerOnReset_rc (s : State) : (powerOnReset s).rc = State.reset.rc := rfl
@[simp] theorem powerOnReset_curLines (s : State) : (powerOnReset s).curLines = State.reset.curLines := rfl
@[simp] theorem powerOnReset_nextLines (s : State) : (powerOnReset s).nextLines = State.reset.nextLines := rfl
@[simp] theorem powerOnReset_result (s : State) : (powerOnReset s).result = State.reset.result := rfl
@[simp] theorem powerOnReset_codec (s : State) : (powerOnReset s).codec = s.codec := rfl
@[simp] theorem powerOnReset_port (s : State) : (powerOnReset s).port = s.port := rfl
@[simp] theorem powerOnReset_standing (s : State) : (powerOnReset s).standing = s.standing := rfl
@[simp] theorem powerOnReset_calls (s : State) : (powerOnReset s).calls = s.calls := rfl
@[simp] theorem powerOnReset_emits (s : State) : (powerOnReset s).emits = State.reset.emits := rfl
@[simp] theorem powerOnReset_out (s : State) : (powerOnReset s).out = State.reset.out := rfl
@[simp] theorem powerOnReset_wire (s : State) : (powerOnReset s).wire = State.reset.wire := rfl
@[simp] theorem powerOnReset_outstanding (s : State) : (powerOnReset s).outstanding = State.reset.outstanding := rfl
@[simp] theorem powerOnReset_scan (s : State) : (powerOnReset s).scan = State.reset.scan := rfl
@[simp] theorem powerOnReset_built (s : State) : (powerOnReset s).built = State.reset.built := rfl
@[simp] theorem powerOnReset_draws (s : State) : (powerOnReset s).draws = s.draws := rfl
@[simp] theorem powerOnReset_resetLine (s : State) : (powerOnReset s).resetLine = State.reset.resetLine := rfl

/-! Fields after `bumpSeq s`. -/

@[simp] theorem bumpSeq_size (s : State) : (bumpSeq s).size = s.size := rfl
@[simp] theorem bumpSeq_img (s : State) : (bumpSeq s).img = s.img := rfl
@[simp] theorem bumpSeq_chunkCfg (s : State) : (bumpSeq s).chunkCfg = s.chunkCfg := rfl
@[simp] theorem bumpSeq_effChunk (s : State) : (bumpSeq s).effChunk = s.effChunk := rfl
@[simp] theorem bumpSeq_tFirst (s : State) : (bumpSeq s).tFirst = s.tFirst := rfl
@[simp] theorem bumpSeq_tNext (s : State) : (bumpSeq s).tNext = s.tNext := rfl
@[simp] theorem bumpSeq_crcInit (s : State) : (bumpSeq s).crcInit = s.crcInit := rfl
@[simp] theorem bumpSeq_maxRetries (s : State) : (bumpSeq s).maxRetries = s.maxRetries := rfl
@[simp] theorem bumpSeq_strictOff (s : State) : (bumpSeq s).strictOff = s.strictOff := rfl
@[simp] theorem bumpSeq_engine (s : State) : (bumpSeq s).engine = s.engine := rfl
@[simp] theorem bumpSeq_off (s : State) : (bumpSeq s).off = s.off := rfl
@[simp] theorem bumpSeq_cur (s : State) : (bumpSeq s).cur = s.cur := rfl
@[simp] theorem bumpSeq_next (s : State) : (bumpSeq s).next = s.next := rfl
@[simp] theorem bumpSeq_failCause (s : State) : (bumpSeq s).failCause = s.failCause := rfl
@[simp] theorem bumpSeq_failInfo (s : State) : (bumpSeq s).failInfo = s.failInfo := rfl
@[simp] theorem bumpSeq_tmo (s : State) : (bumpSeq s).tmo = s.tmo := rfl
@[simp] theorem bumpSeq_deadline (s : State) : (bumpSeq s).deadline = s.deadline := rfl
@[simp] theorem bumpSeq_acc (s : State) : (bumpSeq s).acc = s.acc := rfl
@[simp] theorem bumpSeq_fresh (s : State) : (bumpSeq s).fresh = s.fresh := rfl
@[simp] theorem bumpSeq_rsm (s : State) : (bumpSeq s).rsm = s.rsm := rfl
@[simp] theorem bumpSeq_seq (s : State) : (bumpSeq s).seq = s.seq + 1 := rfl
@[simp] theorem bumpSeq_retry (s : State) : (bumpSeq s).retry = s.retry := rfl
@[simp] theorem bumpSeq_ack (s : State) : (bumpSeq s).ack = s.ack := rfl
@[simp] theorem bumpSeq_rc (s : State) : (bumpSeq s).rc = s.rc := rfl
@[simp] theorem bumpSeq_curLines (s : State) : (bumpSeq s).curLines = s.curLines := rfl
@[simp] theorem bumpSeq_nextLines (s : State) : (bumpSeq s).nextLines = s.nextLines := rfl
@[simp] theorem bumpSeq_result (s : State) : (bumpSeq s).result = s.result := rfl
@[simp] theorem bumpSeq_codec (s : State) : (bumpSeq s).codec = s.codec := rfl
@[simp] theorem bumpSeq_port (s : State) : (bumpSeq s).port = s.port := rfl
@[simp] theorem bumpSeq_standing (s : State) : (bumpSeq s).standing = s.standing := rfl
@[simp] theorem bumpSeq_calls (s : State) : (bumpSeq s).calls = s.calls := rfl
@[simp] theorem bumpSeq_emits (s : State) : (bumpSeq s).emits = s.emits := rfl
@[simp] theorem bumpSeq_out (s : State) : (bumpSeq s).out = s.out := rfl
@[simp] theorem bumpSeq_wire (s : State) : (bumpSeq s).wire = s.wire := rfl
@[simp] theorem bumpSeq_outstanding (s : State) : (bumpSeq s).outstanding = s.outstanding := rfl
@[simp] theorem bumpSeq_scan (s : State) : (bumpSeq s).scan = s.scan := rfl
@[simp] theorem bumpSeq_built (s : State) : (bumpSeq s).built = s.built := rfl
@[simp] theorem bumpSeq_draws (s : State) : (bumpSeq s).draws = s.draws := rfl
@[simp] theorem bumpSeq_resetLine (s : State) : (bumpSeq s).resetLine = s.resetLine := rfl

/-! Fields after `decFeed bs s`. -/

@[simp] theorem decFeed_size (bs : Bytes) (s : State) : (decFeed bs s).size = s.size := rfl
@[simp] theorem decFeed_img (bs : Bytes) (s : State) : (decFeed bs s).img = s.img := rfl
@[simp] theorem decFeed_chunkCfg (bs : Bytes) (s : State) : (decFeed bs s).chunkCfg = s.chunkCfg := rfl
@[simp] theorem decFeed_effChunk (bs : Bytes) (s : State) : (decFeed bs s).effChunk = s.effChunk := rfl
@[simp] theorem decFeed_tFirst (bs : Bytes) (s : State) : (decFeed bs s).tFirst = s.tFirst := rfl
@[simp] theorem decFeed_tNext (bs : Bytes) (s : State) : (decFeed bs s).tNext = s.tNext := rfl
@[simp] theorem decFeed_crcInit (bs : Bytes) (s : State) : (decFeed bs s).crcInit = s.crcInit := rfl
@[simp] theorem decFeed_maxRetries (bs : Bytes) (s : State) : (decFeed bs s).maxRetries = s.maxRetries := rfl
@[simp] theorem decFeed_strictOff (bs : Bytes) (s : State) : (decFeed bs s).strictOff = s.strictOff := rfl
@[simp] theorem decFeed_engine (bs : Bytes) (s : State) : (decFeed bs s).engine = s.engine := rfl
@[simp] theorem decFeed_off (bs : Bytes) (s : State) : (decFeed bs s).off = s.off := rfl
@[simp] theorem decFeed_cur (bs : Bytes) (s : State) : (decFeed bs s).cur = s.cur := rfl
@[simp] theorem decFeed_next (bs : Bytes) (s : State) : (decFeed bs s).next = s.next := rfl
@[simp] theorem decFeed_failCause (bs : Bytes) (s : State) : (decFeed bs s).failCause = s.failCause := rfl
@[simp] theorem decFeed_failInfo (bs : Bytes) (s : State) : (decFeed bs s).failInfo = s.failInfo := rfl
@[simp] theorem decFeed_tmo (bs : Bytes) (s : State) : (decFeed bs s).tmo = s.tmo := rfl
@[simp] theorem decFeed_deadline (bs : Bytes) (s : State) : (decFeed bs s).deadline = s.deadline := rfl
@[simp] theorem decFeed_acc (bs : Bytes) (s : State) : (decFeed bs s).acc = (bs.foldl feedByte (s.acc, s.fresh)).1 := rfl
@[simp] theorem decFeed_fresh (bs : Bytes) (s : State) : (decFeed bs s).fresh = (bs.foldl feedByte (s.acc, s.fresh)).2 := rfl
@[simp] theorem decFeed_rsm (bs : Bytes) (s : State) : (decFeed bs s).rsm = s.rsm := rfl
@[simp] theorem decFeed_seq (bs : Bytes) (s : State) : (decFeed bs s).seq = s.seq := rfl
@[simp] theorem decFeed_retry (bs : Bytes) (s : State) : (decFeed bs s).retry = s.retry := rfl
@[simp] theorem decFeed_ack (bs : Bytes) (s : State) : (decFeed bs s).ack = s.ack := rfl
@[simp] theorem decFeed_rc (bs : Bytes) (s : State) : (decFeed bs s).rc = s.rc := rfl
@[simp] theorem decFeed_curLines (bs : Bytes) (s : State) : (decFeed bs s).curLines = s.curLines := rfl
@[simp] theorem decFeed_nextLines (bs : Bytes) (s : State) : (decFeed bs s).nextLines = s.nextLines := rfl
@[simp] theorem decFeed_result (bs : Bytes) (s : State) : (decFeed bs s).result = s.result := rfl
@[simp] theorem decFeed_codec (bs : Bytes) (s : State) : (decFeed bs s).codec = s.codec := rfl
@[simp] theorem decFeed_port (bs : Bytes) (s : State) : (decFeed bs s).port = s.port := rfl
@[simp] theorem decFeed_standing (bs : Bytes) (s : State) : (decFeed bs s).standing = s.standing := rfl
@[simp] theorem decFeed_calls (bs : Bytes) (s : State) : (decFeed bs s).calls = s.calls := rfl
@[simp] theorem decFeed_emits (bs : Bytes) (s : State) : (decFeed bs s).emits = s.emits := rfl
@[simp] theorem decFeed_out (bs : Bytes) (s : State) : (decFeed bs s).out = s.out := rfl
@[simp] theorem decFeed_wire (bs : Bytes) (s : State) : (decFeed bs s).wire = s.wire := rfl
@[simp] theorem decFeed_outstanding (bs : Bytes) (s : State) : (decFeed bs s).outstanding = s.outstanding := rfl
@[simp] theorem decFeed_scan (bs : Bytes) (s : State) : (decFeed bs s).scan = s.scan := rfl
@[simp] theorem decFeed_built (bs : Bytes) (s : State) : (decFeed bs s).built = s.built := rfl
@[simp] theorem decFeed_draws (bs : Bytes) (s : State) : (decFeed bs s).draws = s.draws := rfl
@[simp] theorem decFeed_resetLine (bs : Bytes) (s : State) : (decFeed bs s).resetLine = s.resetLine := rfl

/-! Fields after `freshAccumulation s`. -/

@[simp] theorem freshAccumulation_size (s : State) : (freshAccumulation s).size = s.size := rfl
@[simp] theorem freshAccumulation_img (s : State) : (freshAccumulation s).img = s.img := rfl
@[simp] theorem freshAccumulation_chunkCfg (s : State) : (freshAccumulation s).chunkCfg = s.chunkCfg := rfl
@[simp] theorem freshAccumulation_effChunk (s : State) : (freshAccumulation s).effChunk = s.effChunk := rfl
@[simp] theorem freshAccumulation_tFirst (s : State) : (freshAccumulation s).tFirst = s.tFirst := rfl
@[simp] theorem freshAccumulation_tNext (s : State) : (freshAccumulation s).tNext = s.tNext := rfl
@[simp] theorem freshAccumulation_crcInit (s : State) : (freshAccumulation s).crcInit = s.crcInit := rfl
@[simp] theorem freshAccumulation_maxRetries (s : State) : (freshAccumulation s).maxRetries = s.maxRetries := rfl
@[simp] theorem freshAccumulation_strictOff (s : State) : (freshAccumulation s).strictOff = s.strictOff := rfl
@[simp] theorem freshAccumulation_engine (s : State) : (freshAccumulation s).engine = s.engine := rfl
@[simp] theorem freshAccumulation_off (s : State) : (freshAccumulation s).off = s.off := rfl
@[simp] theorem freshAccumulation_cur (s : State) : (freshAccumulation s).cur = s.cur := rfl
@[simp] theorem freshAccumulation_next (s : State) : (freshAccumulation s).next = s.next := rfl
@[simp] theorem freshAccumulation_failCause (s : State) : (freshAccumulation s).failCause = s.failCause := rfl
@[simp] theorem freshAccumulation_failInfo (s : State) : (freshAccumulation s).failInfo = s.failInfo := rfl
@[simp] theorem freshAccumulation_tmo (s : State) : (freshAccumulation s).tmo = s.tmo := rfl
@[simp] theorem freshAccumulation_deadline (s : State) : (freshAccumulation s).deadline = s.deadline := rfl
@[simp] theorem freshAccumulation_acc (s : State) : (freshAccumulation s).acc = [] := rfl
@[simp] theorem freshAccumulation_fresh (s : State) : (freshAccumulation s).fresh = true := rfl
@[simp] theorem freshAccumulation_rsm (s : State) : (freshAccumulation s).rsm = .idle := rfl
@[simp] theorem freshAccumulation_seq (s : State) : (freshAccumulation s).seq = s.seq := rfl
@[simp] theorem freshAccumulation_retry (s : State) : (freshAccumulation s).retry = s.retry := rfl
@[simp] theorem freshAccumulation_ack (s : State) : (freshAccumulation s).ack = s.ack := rfl
@[simp] theorem freshAccumulation_rc (s : State) : (freshAccumulation s).rc = s.rc := rfl
@[simp] theorem freshAccumulation_curLines (s : State) : (freshAccumulation s).curLines = s.curLines := rfl
@[simp] theorem freshAccumulation_nextLines (s : State) : (freshAccumulation s).nextLines = s.nextLines := rfl
@[simp] theorem freshAccumulation_result (s : State) : (freshAccumulation s).result = s.result := rfl
@[simp] theorem freshAccumulation_codec (s : State) : (freshAccumulation s).codec = s.codec := rfl
@[simp] theorem freshAccumulation_port (s : State) : (freshAccumulation s).port = s.port := rfl
@[simp] theorem freshAccumulation_standing (s : State) : (freshAccumulation s).standing = s.standing := rfl
@[simp] theorem freshAccumulation_calls (s : State) : (freshAccumulation s).calls = s.calls := rfl
@[simp] theorem freshAccumulation_emits (s : State) : (freshAccumulation s).emits = s.emits := rfl
@[simp] theorem freshAccumulation_out (s : State) : (freshAccumulation s).out = s.out := rfl
@[simp] theorem freshAccumulation_wire (s : State) : (freshAccumulation s).wire = s.wire := rfl
@[simp] theorem freshAccumulation_outstanding (s : State) : (freshAccumulation s).outstanding = s.outstanding := rfl
@[simp] theorem freshAccumulation_scan (s : State) : (freshAccumulation s).scan = s.scan := rfl
@[simp] theorem freshAccumulation_built (s : State) : (freshAccumulation s).built = s.built := rfl
@[simp] theorem freshAccumulation_draws (s : State) : (freshAccumulation s).draws = s.draws := rfl
@[simp] theorem freshAccumulation_resetLine (s : State) : (freshAccumulation s).resetLine = s.resetLine := rfl

/-! Fields after `enterSend s`. -/

@[simp] theorem enterSend_size (s : State) : (enterSend s).size = s.size := rfl
@[simp] theorem enterSend_img (s : State) : (enterSend s).img = s.img := rfl
@[simp] theorem enterSend_chunkCfg (s : State) : (enterSend s).chunkCfg = s.chunkCfg := rfl
@[simp] theorem enterSend_effChunk (s : State) : (enterSend s).effChunk = s.effChunk := rfl
@[simp] theorem enterSend_tFirst (s : State) : (enterSend s).tFirst = s.tFirst := rfl
@[simp] theorem enterSend_tNext (s : State) : (enterSend s).tNext = s.tNext := rfl
@[simp] theorem enterSend_crcInit (s : State) : (enterSend s).crcInit = s.crcInit := rfl
@[simp] theorem enterSend_maxRetries (s : State) : (enterSend s).maxRetries = s.maxRetries := rfl
@[simp] theorem enterSend_strictOff (s : State) : (enterSend s).strictOff = s.strictOff := rfl
@[simp] theorem enterSend_engine (s : State) : (enterSend s).engine = .sendAndPrepareNext := rfl
@[simp] theorem enterSend_off (s : State) : (enterSend s).off = s.off := rfl
@[simp] theorem enterSend_cur (s : State) : (enterSend s).cur = s.cur := rfl
@[simp] theorem enterSend_next (s : State) : (enterSend s).next = s.next := rfl
@[simp] theorem enterSend_failCause (s : State) : (enterSend s).failCause = s.failCause := rfl
@[simp] theorem enterSend_failInfo (s : State) : (enterSend s).failInfo = s.failInfo := rfl
@[simp] theorem enterSend_tmo (s : State) : (enterSend s).tmo = s.tmo := rfl
@[simp] theorem enterSend_deadline (s : State) : (enterSend s).deadline = s.deadline := rfl
@[simp] theorem enterSend_acc (s : State) : (enterSend s).acc = s.acc := rfl
@[simp] theorem enterSend_fresh (s : State) : (enterSend s).fresh = s.fresh := rfl
@[simp] theorem enterSend_rsm (s : State) : (enterSend s).rsm = s.rsm := rfl
@[simp] theorem enterSend_seq (s : State) : (enterSend s).seq = s.seq := rfl
@[simp] theorem enterSend_retry (s : State) : (enterSend s).retry = s.retry := rfl
@[simp] theorem enterSend_ack (s : State) : (enterSend s).ack = s.ack := rfl
@[simp] theorem enterSend_rc (s : State) : (enterSend s).rc = s.rc := rfl
@[simp] theorem enterSend_curLines (s : State) : (enterSend s).curLines = s.curLines := rfl
@[simp] theorem enterSend_nextLines (s : State) : (enterSend s).nextLines = s.nextLines := rfl
@[simp] theorem enterSend_result (s : State) : (enterSend s).result = s.result := rfl
@[simp] theorem enterSend_codec (s : State) : (enterSend s).codec = s.codec := rfl
@[simp] theorem enterSend_port (s : State) : (enterSend s).port = s.port := rfl
@[simp] theorem enterSend_standing (s : State) : (enterSend s).standing = s.standing := rfl
@[simp] theorem enterSend_calls (s : State) : (enterSend s).calls = s.calls := rfl
@[simp] theorem enterSend_emits (s : State) : (enterSend s).emits = s.emits ++ [.write s.curLines] := rfl
@[simp] theorem enterSend_out (s : State) : (enterSend s).out = s.out := rfl
@[simp] theorem enterSend_wire (s : State) : (enterSend s).wire = s.wire := rfl
@[simp] theorem enterSend_outstanding (s : State) : (enterSend s).outstanding = s.outstanding := rfl
@[simp] theorem enterSend_scan (s : State) : (enterSend s).scan = s.scan := rfl
@[simp] theorem enterSend_built (s : State) : (enterSend s).built = s.built := rfl
@[simp] theorem enterSend_draws (s : State) : (enterSend s).draws = s.draws := rfl
@[simp] theorem enterSend_resetLine (s : State) : (enterSend s).resetLine = s.resetLine := rfl

/-! Fields after `enterAwaitAck s`. -/

@[simp] theorem enterAwaitAck_size (s : State) : (enterAwaitAck s).size = s.size := rfl
@[simp] theorem enterAwaitAck_img (s : State) : (enterAwaitAck s).img = s.img := rfl
@[simp] theorem enterAwaitAck_chunkCfg (s : State) : (enterAwaitAck s).chunkCfg = s.chunkCfg := rfl
@[simp] theorem enterAwaitAck_effChunk (s : State) : (enterAwaitAck s).effChunk = s.effChunk := rfl
@[simp] theorem enterAwaitAck_tFirst (s : State) : (enterAwaitAck s).tFirst = s.tFirst := rfl
@[simp] theorem enterAwaitAck_tNext (s : State) : (enterAwaitAck s).tNext = s.tNext := rfl
@[simp] theorem enterAwaitAck_crcInit (s : State) : (enterAwaitAck s).crcInit = s.crcInit := rfl
@[simp] theorem enterAwaitAck_maxRetries (s : State) : (enterAwaitAck s).maxRetries = s.maxRetries := rfl
@[simp] theorem enterAwaitAck_strictOff (s : State) : (enterAwaitAck s).strictOff = s.strictOff := rfl
@[simp] theorem enterAwaitAck_engine (s : State) : (enterAwaitAck s).engine = .awaitAck := rfl
@[simp] theorem enterAwaitAck_off (s : State) : (enterAwaitAck s).off = s.off := rfl
@[simp] theorem enterAwaitAck_cur (s : State) : (enterAwaitAck s).cur = s.cur := rfl
@[simp] theorem enterAwaitAck_next (s : State) : (enterAwaitAck s).next = s.next := rfl
@[simp] theorem enterAwaitAck_failCause (s : State) : (enterAwaitAck s).failCause = s.failCause := rfl
@[simp] theorem enterAwaitAck_failInfo (s : State) : (enterAwaitAck s).failInfo = s.failInfo := rfl
@[simp] theorem enterAwaitAck_tmo (s : State) : (enterAwaitAck s).tmo = s.tmo := rfl
@[simp] theorem enterAwaitAck_deadline (s : State) : (enterAwaitAck s).deadline = Config.now s.draws + budget s := rfl
@[simp] theorem enterAwaitAck_acc (s : State) : (enterAwaitAck s).acc = [] := rfl
@[simp] theorem enterAwaitAck_fresh (s : State) : (enterAwaitAck s).fresh = true := rfl
@[simp] theorem enterAwaitAck_rsm (s : State) : (enterAwaitAck s).rsm = .idle := rfl
@[simp] theorem enterAwaitAck_seq (s : State) : (enterAwaitAck s).seq = s.seq := rfl
@[simp] theorem enterAwaitAck_retry (s : State) : (enterAwaitAck s).retry = s.retry := rfl
@[simp] theorem enterAwaitAck_ack (s : State) : (enterAwaitAck s).ack = s.ack := rfl
@[simp] theorem enterAwaitAck_rc (s : State) : (enterAwaitAck s).rc = s.rc := rfl
@[simp] theorem enterAwaitAck_curLines (s : State) : (enterAwaitAck s).curLines = s.curLines := rfl
@[simp] theorem enterAwaitAck_nextLines (s : State) : (enterAwaitAck s).nextLines = s.nextLines := rfl
@[simp] theorem enterAwaitAck_result (s : State) : (enterAwaitAck s).result = s.result := rfl
@[simp] theorem enterAwaitAck_codec (s : State) : (enterAwaitAck s).codec = s.codec := rfl
@[simp] theorem enterAwaitAck_port (s : State) : (enterAwaitAck s).port = s.port := rfl
@[simp] theorem enterAwaitAck_standing (s : State) : (enterAwaitAck s).standing = s.standing := rfl
@[simp] theorem enterAwaitAck_calls (s : State) : (enterAwaitAck s).calls = s.calls := rfl
@[simp] theorem enterAwaitAck_emits (s : State) : (enterAwaitAck s).emits = s.emits ++ [.read (Config.now s.draws + budget s)] := rfl
@[simp] theorem enterAwaitAck_out (s : State) : (enterAwaitAck s).out = s.out := rfl
@[simp] theorem enterAwaitAck_wire (s : State) : (enterAwaitAck s).wire = s.wire := rfl
@[simp] theorem enterAwaitAck_outstanding (s : State) : (enterAwaitAck s).outstanding = s.outstanding := rfl
@[simp] theorem enterAwaitAck_scan (s : State) : (enterAwaitAck s).scan = s.scan := rfl
@[simp] theorem enterAwaitAck_built (s : State) : (enterAwaitAck s).built = s.built := rfl
@[simp] theorem enterAwaitAck_draws (s : State) : (enterAwaitAck s).draws = s.draws + 1 := rfl
@[simp] theorem enterAwaitAck_resetLine (s : State) : (enterAwaitAck s).resetLine = s.resetLine := rfl

/-! Fields after `resetSession s`. -/

@[simp] theorem resetSession_size (s : State) : (resetSession s).size = s.size := rfl
@[simp] theorem resetSession_img (s : State) : (resetSession s).img = s.img := rfl
@[simp] theorem resetSession_chunkCfg (s : State) : (resetSession s).chunkCfg = s.chunkCfg := rfl
@[simp] theorem resetSession_effChunk (s : State) : (resetSession s).effChunk = s.effChunk := rfl
@[simp] theorem resetSession_tFirst (s : State) : (resetSession s).tFirst = s.tFirst := rfl
@[simp] theorem resetSession_tNext (s : State) : (resetSession s).tNext = s.tNext := rfl
@[simp] theorem resetSession_crcInit (s : State) : (resetSession s).crcInit = s.crcInit := rfl
@[simp] theorem resetSession_maxRetries (s : State) : (resetSession s).maxRetries = s.maxRetries := rfl
@[simp] theorem resetSession_strictOff (s : State) : (resetSession s).strictOff = s.strictOff := rfl
@[simp] theorem resetSession_engine (s : State) : (resetSession s).engine = State.reset.engine := rfl
@[simp] theorem resetSession_off (s : State) : (resetSession s).off = State.reset.off := rfl
@[simp] theorem resetSession_cur (s : State) : (resetSession s).cur = State.reset.cur := rfl
@[simp] theorem resetSession_next (s : State) : (resetSession s).next = State.reset.next := rfl
@[simp] theorem resetSession_failCause (s : State) : (resetSession s).failCause = State.reset.failCause := rfl
@[simp] theorem resetSession_failInfo (s : State) : (resetSession s).failInfo = State.reset.failInfo := rfl
@[simp] theorem resetSession_tmo (s : State) : (resetSession s).tmo = State.reset.tmo := rfl
@[simp] theorem resetSession_deadline (s : State) : (resetSession s).deadline = State.reset.deadline := rfl
@[simp] theorem resetSession_acc (s : State) : (resetSession s).acc = State.reset.acc := rfl
@[simp] theorem resetSession_fresh (s : State) : (resetSession s).fresh = State.reset.fresh := rfl
@[simp] theorem resetSession_rsm (s : State) : (resetSession s).rsm = State.reset.rsm := rfl
@[simp] theorem resetSession_seq (s : State) : (resetSession s).seq = State.reset.seq := rfl
@[simp] theorem resetSession_retry (s : State) : (resetSession s).retry = State.reset.retry := rfl
@[simp] theorem resetSession_ack (s : State) : (resetSession s).ack = State.reset.ack := rfl
@[simp] theorem resetSession_rc (s : State) : (resetSession s).rc = State.reset.rc := rfl
@[simp] theorem resetSession_curLines (s : State) : (resetSession s).curLines = State.reset.curLines := rfl
@[simp] theorem resetSession_nextLines (s : State) : (resetSession s).nextLines = State.reset.nextLines := rfl
@[simp] theorem resetSession_result (s : State) : (resetSession s).result = State.reset.result := rfl
@[simp] theorem resetSession_codec (s : State) : (resetSession s).codec = s.codec := rfl
@[simp] theorem resetSession_port (s : State) : (resetSession s).port = s.port := rfl
@[simp] theorem resetSession_standing (s : State) : (resetSession s).standing = s.standing := rfl
@[simp] theorem resetSession_calls (s : State) : (resetSession s).calls = s.calls := rfl
@[simp] theorem resetSession_emits (s : State) : (resetSession s).emits = s.emits := rfl
@[simp] theorem resetSession_out (s : State) : (resetSession s).out = s.out := rfl
@[simp] theorem resetSession_wire (s : State) : (resetSession s).wire = s.wire := rfl
@[simp] theorem resetSession_outstanding (s : State) : (resetSession s).outstanding = none := rfl
@[simp] theorem resetSession_scan (s : State) : (resetSession s).scan = .off := rfl
@[simp] theorem resetSession_built (s : State) : (resetSession s).built = s.built := rfl
@[simp] theorem resetSession_draws (s : State) : (resetSession s).draws = s.draws := rfl
@[simp] theorem resetSession_resetLine (s : State) : (resetSession s).resetLine = s.resetLine := rfl

/-! Fields after `needMore s`. -/

@[simp] theorem needMore_size (s : State) : (needMore s).size = s.size := rfl
@[simp] theorem needMore_img (s : State) : (needMore s).img = s.img := rfl
@[simp] theorem needMore_chunkCfg (s : State) : (needMore s).chunkCfg = s.chunkCfg := rfl
@[simp] theorem needMore_effChunk (s : State) : (needMore s).effChunk = s.effChunk := rfl
@[simp] theorem needMore_tFirst (s : State) : (needMore s).tFirst = s.tFirst := rfl
@[simp] theorem needMore_tNext (s : State) : (needMore s).tNext = s.tNext := rfl
@[simp] theorem needMore_crcInit (s : State) : (needMore s).crcInit = s.crcInit := rfl
@[simp] theorem needMore_maxRetries (s : State) : (needMore s).maxRetries = s.maxRetries := rfl
@[simp] theorem needMore_strictOff (s : State) : (needMore s).strictOff = s.strictOff := rfl
@[simp] theorem needMore_engine (s : State) : (needMore s).engine = s.engine := rfl
@[simp] theorem needMore_off (s : State) : (needMore s).off = s.off := rfl
@[simp] theorem needMore_cur (s : State) : (needMore s).cur = s.cur := rfl
@[simp] theorem needMore_next (s : State) : (needMore s).next = s.next := rfl
@[simp] theorem needMore_failCause (s : State) : (needMore s).failCause = s.failCause := rfl
@[simp] theorem needMore_failInfo (s : State) : (needMore s).failInfo = s.failInfo := rfl
@[simp] theorem needMore_tmo (s : State) : (needMore s).tmo = s.tmo := rfl
@[simp] theorem needMore_deadline (s : State) : (needMore s).deadline = s.deadline := rfl
@[simp] theorem needMore_acc (s : State) : (needMore s).acc = s.acc := rfl
@[simp] theorem needMore_fresh (s : State) : (needMore s).fresh = s.fresh := rfl
@[simp] theorem needMore_rsm (s : State) : (needMore s).rsm = s.rsm := rfl
@[simp] theorem needMore_seq (s : State) : (needMore s).seq = s.seq := rfl
@[simp] theorem needMore_retry (s : State) : (needMore s).retry = s.retry := rfl
@[simp] theorem needMore_ack (s : State) : (needMore s).ack = s.ack := rfl
@[simp] theorem needMore_rc (s : State) : (needMore s).rc = s.rc := rfl
@[simp] theorem needMore_curLines (s : State) : (needMore s).curLines = s.curLines := rfl
@[simp] theorem needMore_nextLines (s : State) : (needMore s).nextLines = s.nextLines := rfl
@[simp] theorem needMore_result (s : State) : (needMore s).result = s.result := rfl
@[simp] theorem needMore_codec (s : State) : (needMore s).codec = s.codec := rfl
@[simp] theorem needMore_port (s : State) : (needMore s).port = s.port := rfl
@[simp] theorem needMore_standing (s : State) : (needMore s).standing = s.standing := rfl
@[simp] theorem needMore_calls (s : State) : (needMore s).calls = s.calls := rfl
@[simp] theorem needMore_emits (s : State) : (needMore s).emits = s.emits ++ [.read s.deadline] := rfl
@[simp] theorem needMore_out (s : State) : (needMore s).out = s.out := rfl
@[simp] theorem needMore_wire (s : State) : (needMore s).wire = s.wire := rfl
@[simp] theorem needMore_outstanding (s : State) : (needMore s).outstanding = s.outstanding := rfl
@[simp] theorem needMore_scan (s : State) : (needMore s).scan = .off := rfl
@[simp] theorem needMore_built (s : State) : (needMore s).built = s.built := rfl
@[simp] theorem needMore_draws (s : State) : (needMore s).draws = s.draws := rfl
@[simp] theorem needMore_resetLine (s : State) : (needMore s).resetLine = s.resetLine := rfl

/-! Fields after `send e s`. -/

@[simp] theorem send_size (e : OutEvent) (s : State) : (send e s).size = s.size := rfl
@[simp] theorem send_img (e : OutEvent) (s : State) : (send e s).img = s.img := rfl
@[simp] theorem send_chunkCfg (e : OutEvent) (s : State) : (send e s).chunkCfg = s.chunkCfg := rfl
@[simp] theorem send_effChunk (e : OutEvent) (s : State) : (send e s).effChunk = s.effChunk := rfl
@[simp] theorem send_tFirst (e : OutEvent) (s : State) : (send e s).tFirst = s.tFirst := rfl
@[simp] theorem send_tNext (e : OutEvent) (s : State) : (send e s).tNext = s.tNext := rfl
@[simp] theorem send_crcInit (e : OutEvent) (s : State) : (send e s).crcInit = s.crcInit := rfl
@[simp] theorem send_maxRetries (e : OutEvent) (s : State) : (send e s).maxRetries = s.maxRetries := rfl
@[simp] theorem send_strictOff (e : OutEvent) (s : State) : (send e s).strictOff = s.strictOff := rfl
@[simp] theorem send_engine (e : OutEvent) (s : State) : (send e s).engine = s.engine := rfl
@[simp] theorem send_off (e : OutEvent) (s : State) : (send e s).off = s.off := rfl
@[simp] theorem send_cur (e : OutEvent) (s : State) : (send e s).cur = s.cur := rfl
@[simp] theorem send_next (e : OutEvent) (s : State) : (send e s).next = s.next := rfl
@[simp] theorem send_failCause (e : OutEvent) (s : State) : (send e s).failCause = s.failCause := rfl
@[simp] theorem send_failInfo (e : OutEvent) (s : State) : (send e s).failInfo = s.failInfo := rfl
@[simp] theorem send_tmo (e : OutEvent) (s : State) : (send e s).tmo = s.tmo := rfl
@[simp] theorem send_deadline (e : OutEvent) (s : State) : (send e s).deadline = s.deadline := rfl
@[simp] theorem send_acc (e : OutEvent) (s : State) : (send e s).acc = s.acc := rfl
@[simp] theorem send_fresh (e : OutEvent) (s : State) : (send e s).fresh = s.fresh := rfl
@[simp] theorem send_rsm (e : OutEvent) (s : State) : (send e s).rsm = s.rsm := rfl
@[simp] theorem send_seq (e : OutEvent) (s : State) : (send e s).seq = s.seq := rfl
@[simp] theorem send_retry (e : OutEvent) (s : State) : (send e s).retry = s.retry := rfl
@[simp] theorem send_ack (e : OutEvent) (s : State) : (send e s).ack = s.ack := rfl
@[simp] theorem send_rc (e : OutEvent) (s : State) : (send e s).rc = s.rc := rfl
@[simp] theorem send_curLines (e : OutEvent) (s : State) : (send e s).curLines = s.curLines := rfl
@[simp] theorem send_nextLines (e : OutEvent) (s : State) : (send e s).nextLines = s.nextLines := rfl
@[simp] theorem send_result (e : OutEvent) (s : State) : (send e s).result = s.result := rfl
@[simp] theorem send_codec (e : OutEvent) (s : State) : (send e s).codec = s.codec := rfl
@[simp] theorem send_port (e : OutEvent) (s : State) : (send e s).port = s.port := rfl
@[simp] theorem send_standing (e : OutEvent) (s : State) : (send e s).standing = s.standing := rfl
@[simp] theorem send_calls (e : OutEvent) (s : State) : (send e s).calls = s.calls := rfl
@[simp] theorem send_emits (e : OutEvent) (s : State) : (send e s).emits = s.emits := rfl
@[simp] theorem send_out (e : OutEvent) (s : State) : (send e s).out = s.out ++ [e] := rfl
@[simp] theorem send_wire (e : OutEvent) (s : State) : (send e s).wire = s.wire := rfl
@[simp] theorem send_outstanding (e : OutEvent) (s : State) : (send e s).outstanding = s.outstanding := rfl
@[simp] theorem send_scan (e : OutEvent) (s : State) : (send e s).scan = s.scan := rfl
@[simp] theorem send_built (e : OutEvent) (s : State) : (send e s).built = s.built := rfl
@[simp] theorem send_draws (e : OutEvent) (s : State) : (send e s).draws = s.draws := rfl
@[simp] theorem send_resetLine (e : OutEvent) (s : State) : (send e s).resetLine = s.resetLine := rfl

end Sys2Proof.Machine
end

