-- ==== Sys2Proof/Laws/Operations.lean ====
section
/-! SUPPORT. For each shared operation, one lemma that says once what it can do. -/

namespace Sys2Proof.Machine

/-! Operands. -/

/-- Everything `splitLine` can find: the bytes up to the first newline, and the bytes after it. -/
theorem splitLine_eq_some_iff {bs line rest : Bytes} :
    splitLine bs = some (line, rest) ↔ bs = line ++ newline :: rest ∧ newline ∉ line := by
  induction bs generalizing line with
  | nil => simp [splitLine]
  | cons b bs ih =>
    rw [splitLine]
    by_cases hb : b = newline
    · subst hb
      cases line with
      | nil => simp [eq_comm]
      | cons c line => simp; rintro rfl; simp
    · rw [if_neg hb]
      cases hs : splitLine bs with
      | none =>
        cases line with
        | nil => simp [hb]
        | cons c line =>
          have := (not_congr (ih (line := line))).mp (by simp [hs])
          simp only [List.cons_append, List.cons.injEq, List.mem_cons, not_or, reduceCtorEq, false_iff, not_and]
          rintro ⟨rfl, h⟩ _ hn
          exact this ⟨h, hn⟩
      | some p =>
        obtain ⟨l, r⟩ := p
        cases line with
        | nil => simp [hb]
        | cons c line =>
          have h := ih (line := line)
          rw [hs] at h
          simp only [Option.some.injEq, Prod.mk.injEq, List.cons.injEq, List.cons_append, List.mem_cons, not_or] at h ⊢
          constructor
          · rintro ⟨⟨rfl, rfl⟩, rfl⟩
            obtain ⟨h1, h2⟩ := h.mp ⟨rfl, rfl⟩
            exact ⟨⟨rfl, h1⟩, fun h => hb h.symm, h2⟩
          · rintro ⟨⟨rfl, h1⟩, _, h2⟩
            obtain ⟨rfl, rfl⟩ := h.mpr ⟨h1, h2⟩
            exact ⟨⟨rfl, rfl⟩, rfl⟩

/-- `splitLine` finds nothing exactly where there is no newline. -/
theorem splitLine_eq_none_iff {bs : Bytes} : splitLine bs = none ↔ newline ∉ bs := by
  induction bs with
  | nil => simp [splitLine]
  | cons b bs ih =>
    rw [splitLine]
    by_cases hb : b = newline
    · simp [hb]
    · rw [if_neg hb]
      cases hs : splitLine bs with
      | none => simpa [hs, Ne.symm hb] using ih
      | some p => simpa [hs] using fun _ => ih

/-! Requests. -/

/-- The header of a built request, back-filled: the bytes of 30_encoding.md R75 with op 2. -/
theorem backFill_buildHeader (seq : BitVec 8) (group : Word16) (id : Byte) (n : Nat) :
    backFill (buildHeader seq group id) n = [0x02, 0x00] ++ be16Nat n ++ be16 group ++ [seq, id] := by
  simp [backFill, buildHeader, headerBytes, be16Nat, be16]

/-- Everything `buildRequest` can do (43_message_codec.md R181). -/
theorem buildRequest_ok_iff {codec : Config.Codec} {seq : BitVec 8} {group : Word16} {id : Byte}
    {fields : List (Config.Key × Config.Value)} {m : Bytes} :
    buildRequest codec seq group id fields = .ok m ↔
      (encPayload codec ((keyHdr, .hdrEcho (buildHeader seq group id)) :: fields)).length ≤ 65535 ∧
      m = backFill (buildHeader seq group id)
            (encPayload codec ((keyHdr, .hdrEcho (buildHeader seq group id)) :: fields)).length
          ++ encPayload codec ((keyHdr, .hdrEcho (buildHeader seq group id)) :: fields) := by
  simp only [buildRequest, Config.maxPayload]
  generalize (encPayload codec ((keyHdr, .hdrEcho (buildHeader seq group id)) :: fields)) = p
  by_cases hp : p.length > 65535
  · rw [if_pos hp]; simp; omega
  · rw [if_neg hp]; simp [eq_comm]; omega

/-- The one fault of `buildRequest`. -/
theorem buildRequest_error {codec : Config.Codec} {seq : BitVec 8} {group : Word16} {id : Byte}
    {fields : List (Config.Key × Config.Value)} {f : Fault}
    (h : buildRequest codec seq group id fields = .error f) : f = .encodeRange := by
  simp only [buildRequest] at h
  split at h
  · exact (Except.error.inj h).symm
  · cases h

/-- Everything a request-builder call can do. -/
theorem callBuilder_cases (group : Word16) (id : Byte) (fields : List (Config.Key × Config.Value)) (s : State) :
    (∃ m, buildRequest s.codec s.seq group id fields = .ok m ∧
      callBuilder group id fields s = .next { s with seq := s.seq + 1, built := some m }) ∨
    callBuilder group id fields s = .fault .encodeRange := by
  unfold callBuilder
  split
  · next f h => rw [buildRequest_error h]; exact .inr rfl
  · next m h => exact .inl ⟨m, h, rfl⟩

/-! Encoding. -/

/-- The faults of the encoder. -/
theorem encodeMessage_ok_iff {init : Word16} {m : Bytes} {lines : List Bytes} :
    encodeMessage init m = .ok lines ↔
      m.length ≤ 65533 ∧ ∃ conts,
        contLines ((checksum init m).drop 91).length ((checksum init m).drop 91) = .ok conts ∧
        lines = startLine (checksum init m) :: conts := by
  simp only [encodeMessage, Config.maxMessage, Config.startBudget]
  by_cases hm : m.length > 65533
  · rw [if_pos hm]; simp; omega
  · rw [if_neg hm]
    cases contLines ((checksum init m).drop 91).length ((checksum init m).drop 91) with
    | error f => simp
    | ok conts => simp [eq_comm]; omega

/-- Everything `buildSegment` can do (44_upload_engine.md R213). -/
theorem buildSegment_ok_iff {s : State} {seg : Segment} {wire : Bytes} :
    buildSegment s seg = .ok wire ↔
      seg.off + seg.len ≤ s.size ∧ ∃ m lines,
        buildRequest s.codec s.seq 1 1
          (segmentFields s.size seg (Memory.readRange s.img seg.off seg.len)) = .ok m ∧
        encodeMessage s.crcInit m = .ok lines ∧ wire = lines.flatten := by
  unfold buildSegment
  split
  · next f h => simp; have := (memRead_error_iff.mp h).1; omega
  · next d h =>
    obtain ⟨h1, rfl⟩ := memRead_ok_iff.mp h
    cases buildRequest s.codec s.seq 1 1
        (segmentFields s.size seg (Memory.readRange s.img seg.off seg.len)) with
    | error f => simp
    | ok m => cases hl : encodeMessage s.crcInit m <;> simp [h1, hl, eq_comm]

/-! The engine. -/

/-- Everything `nextSegment` can find (44_upload_engine.md R214). -/
theorem nextSegment_eq_some_iff {size effChunk : Nat} {cur n : Segment} :
    nextSegment size effChunk cur = some n ↔
      cur.off + cur.len < size ∧
      n = ⟨cur.off + cur.len, min (size - (cur.off + cur.len)) effChunk, .segN⟩ := by
  simp only [nextSegment]
  split <;> simp [eq_comm] <;> omega

/-- The outcomes of the acknowledgement check (44_upload_engine.md R221). -/
theorem judge_cases (s : State) :
    (s.rc ≠ 0 ∧ judge s = raiseFailure .rejected s.rc s) ∨
    (s.rc = 0 ∧ s.ack = s.size ∧ judge s = enterDone (emit (.progress s.ack) s)) ∨
    (s.rc = 0 ∧ (s.size : Int) < s.ack ∧ judge s = raiseFailure .overrun s.ack s) ∨
    (s.rc = 0 ∧ s.ack < s.size ∧ s.ack ≠ s.cur.off + s.cur.len ∧ judge s = { s with engine := .retransmit }) ∨
    (s.rc = 0 ∧ s.ack < s.size ∧ s.ack = s.cur.off + s.cur.len ∧
      judge s = emit (.progress s.ack) { s with engine := .advance }) := by
  unfold judge
  by_cases h0 : s.rc = 0
  · right
    rw [if_neg (by simp [h0])]
    rcases lt_trichotomy s.ack (s.size : Int) with h | h | h
    · right; right
      rw [if_neg (by omega), if_neg (by omega)]
      by_cases h2 : s.ack = s.cur.off + s.cur.len
      · exact .inr ⟨h0, h, h2, by rw [if_neg (by simp [h2])]⟩
      · exact .inl ⟨h0, h, h2, by rw [if_pos h2]⟩
    · exact .inl ⟨h0, h, by rw [if_pos h]⟩
    · exact .inr (.inl ⟨h0, h, by rw [if_neg (by omega), if_pos h]⟩)
  · exact .inl ⟨h0, by rw [if_pos h0]⟩

/-- The outcomes of an accepted response (44_upload_engine.md R218). -/
theorem acceptResponse_cases (msg : Bytes) (s : State) :
    (∃ sub, acceptResponse msg s = decodeFailure sub { s with scan := .off }) ∨
    ∃ rc ack, acceptResponse msg s = judge { s with scan := .off, rc := rc, ack := ack } := by
  unfold acceptResponse
  split
  · exact .inl ⟨_, rfl⟩
  · exact .inr ⟨_, _, rfl⟩

/-- The outcomes of the completion check (42_frame_decoder.md R161, R162). -/
theorem completionCheck_cases (decl : Word16) (rbuf : Bytes) (s : State) :
    completionCheck decl rbuf s = integrityFailure .length { s with rsm := .collect decl rbuf } ∨
    (rbuf.length < decl.toNat ∧ completionCheck decl rbuf s = { s with rsm := .collect decl rbuf }) ∨
    (∃ m, completionCheck decl rbuf s = { s with rsm := .idle, scan := .message m }) ∨
    completionCheck decl rbuf s = integrityFailure .crc { s with rsm := .idle } := by
  simp only [completionCheck]
  split
  · exact .inl rfl
  · split
    · next h => exact .inr (.inl ⟨h, rfl⟩)
    · split
      · exact .inr (.inr (.inl ⟨_, rfl⟩))
      · exact .inr (.inr (.inr rfl))

/-- What PrepareFirst does where it answers a next state (44_upload_engine.md R212). -/
theorem prepareFirst_next {s t : State} (h : prepareFirst s = .next t) :
    ∃ lines, t = enterSend (bumpSeq { s with
      off := 0, cur := firstSegment s.size, tmo := .first, retry := 0, next := none, nextLines := none,
      curLines := lines }) := by
  simp only [prepareFirst] at h
  split at h
  · cases h
  · next lines _ => exact ⟨lines, (Host.Outcome.next.inj h).symm⟩

/-- What Retransmit does where it answers a next state (44_upload_engine.md R224). -/
theorem retransmit_next {s t : State} (h : retransmit s = .next t) :
    (retriesExhausted s = true ∧ t = raiseFailure .retryExhausted s.cur.off s) ∨
    (retriesExhausted s = false ∧ ∃ lines, t = enterSend (bumpSeq { s with
      retry := s.retry + 1, tmo := if s.cur.off = 0 then .first else .next, curLines := lines })) := by
  simp only [retransmit] at h
  split at h
  · next hr => exact .inl ⟨hr, (Host.Outcome.next.inj h).symm⟩
  · next hr =>
    split at h
    · cases h
    · next lines _ => exact .inr ⟨by simpa using hr, lines, (Host.Outcome.next.inj h).symm⟩

/-- What Advance does where it answers a next state (44_upload_engine.md R225). -/
theorem advance_next {s t : State} (h : advance s = .next t) :
    ∃ n lines ack, s.next = some n ∧ s.nextLines = some lines ∧ s.ack = .ofNat ack ∧
      t = (if ack = s.size then enterDone else enterSend) { s with
        cur := n, curLines := lines, off := ack, tmo := .next, retry := 0, next := none, nextLines := none } := by
  simp only [advance] at h
  split at h
  · next n lines ack h1 h2 h3 =>
    refine ⟨n, lines, ack, h1, h2, h3, ?_⟩
    rw [← Host.Outcome.next.inj h]
    split <;> rfl
  · cases h

/-! The step. -/

/-- When a request-builder call may run. -/
theorem callAdmitted_iff (s : State) : callAdmitted s = true ↔
    (s.engine = .idle ∨ s.engine = .done ∨ s.engine = .failed) ∧ s.outstanding = none := by
  cases he : s.engine <;> simp [callAdmitted, startAdmitted, he]

@[simp] theorem inputBytes_withPort (s : State) (b : Byte) (bs : Bytes) : inputBytes { s with port := b :: bs } = b :: bs := rfl
@[simp] theorem inputBytes_noPort (s : State) : inputBytes { s with port := [] } = s.standing := rfl

/-- What the input in store does where it answers a next state (log 20: a call only between transfers). -/
theorem pendingInput_next {s t : State} (h : stepPending (pendingInput s) s = .next t) :
    (callAdmitted s = true ∧ s.calls ≠ [] ∧ stepCall s.calls s = .next t) ∨
    ((callAdmitted s = false ∨ s.calls = []) ∧ inputBytes s ≠ [] ∧ stepEvent (inputBytes s) s = .next t) := by
  unfold pendingInput at h
  split at h
  · next hc => exact .inl (by simpa [stepPending, and_assoc] using And.intro hc h)
  · next hc =>
    split at h
    · cases h
    · next b bs hb => exact .inr ⟨by simpa [or_iff_not_imp_left] using hc, by simp [hb], by rw [hb]; exact h⟩

/-- Everything a step can do, by what is pending. -/
theorem step_cases {s t : State} (h : step s = .next t) :
    (s.resetLine = true ∧ t = powerOnReset s) ∨
    (s.resetLine = false ∧ ∃ e es, s.emits = e :: es ∧ exec e.instr { s with emits := es } = .next t) ∨
    (s.resetLine = false ∧ s.emits = [] ∧ ∃ m, s.scan = .message m ∧ exec (decodeMessage m) s = .next t) ∨
    (s.resetLine = false ∧ s.emits = [] ∧ s.scan = .lines ∧ ∃ line rest,
      splitLine s.acc = some (line, rest) ∧ exec (decodeLine line) { s with acc := rest } = .next t) ∨
    (s.resetLine = false ∧ s.emits = [] ∧ s.scan = .lines ∧ splitLine s.acc = none ∧ t = needMore s) ∨
    (s.resetLine = false ∧ s.emits = [] ∧ s.scan = .off ∧
      ((s.engine = .prepareFirst ∧ prepareFirst s = .next t) ∨
       (s.engine = .retransmit ∧ retransmit s = .next t) ∨
       (s.engine = .advance ∧ advance s = .next t) ∨
       (callAdmitted s = true ∧ s.calls ≠ [] ∧ stepCall s.calls s = .next t) ∨
       (restingEngine s.engine = s.engine ∧ (callAdmitted s = false ∨ s.calls = []) ∧ inputBytes s ≠ [] ∧
         stepEvent (inputBytes s) s = .next t))) := by
  unfold step stepOnce at h
  split at h
  · next hr => exact .inl ⟨hr, (Host.Outcome.next.inj h).symm⟩
  · next hr =>
    have hr : s.resetLine = false := by simpa using hr
    right
    unfold pending at h
    split at h
    · next e es he => exact .inl ⟨hr, e, es, he, h⟩
    · next m he hm => exact .inr (.inl ⟨hr, he, m, hm, h⟩)
    · next he hs =>
      split at h
      · next line rest hl => exact .inr (.inr (.inl ⟨hr, he, hs, line, rest, hl, h⟩))
      · next hl => exact .inr (.inr (.inr (.inl ⟨hr, he, hs, hl, (Host.Outcome.next.inj h).symm⟩)))
    · next he hs =>
      refine .inr (.inr (.inr (.inr ⟨hr, he, hs, ?_⟩)))
      unfold pendingEngine at h
      cases heng : s.engine <;> simp only [heng] at h <;>
        first
        | exact .inl ⟨rfl, h⟩
        | exact .inr (.inl ⟨rfl, h⟩)
        | exact .inr (.inr (.inl ⟨rfl, h⟩))
        | exact .inr (.inr (.inr ((pendingInput_next h).imp id fun ⟨h1, h2, h3⟩ => ⟨rfl, h1, h2, h3⟩)))

/-- A request-builder call in store runs its instruction. -/
theorem stepCall_next {bytes : Bytes} {s t : State} (h : stepCall bytes s = .next t) :
    ∃ i rest, decodeRequest bytes = .ok (i, rest) ∧ exec i { s with calls := rest } = .next t := by
  unfold stepCall at h
  split at h
  · cases h
  · next i rest hd => exact ⟨i, rest, hd, h⟩

/-- An input event in store runs its instruction. -/
theorem stepEvent_next {bytes : Bytes} {s t : State} (h : stepEvent bytes s = .next t) :
    ∃ i rest, decodeEvent bytes = .ok (i, rest) ∧ outEvent? i = none ∧ exec i { s with port := rest } = .next t := by
  unfold stepEvent at h
  split at h
  · cases h
  · next i rest hd =>
    split at h
    · cases h
    · next ho => exact ⟨i, rest, hd, ho, h⟩

end Sys2Proof.Machine
end

