-- ==== Sys2Proof/Laws/PerInstr.lean ====
section
/-! SUPPORT. What holds of every instruction as syntax: the shape of its encoding. -/

namespace Sys2Proof.Laws

open Sys2Proof.Machine

/-- An event begins with its code (30_encoding.md R86), a line ends with the newline (R70), a request's header has op 2 and no other bit
in its first half (R77, R79), and a well-formed message is a response unless it is a non-response (43_message_codec.md R190). -/
def EncodedShape.Statement (i : Instr) : Prop :=
  match i.layer with
  | .event => ∃ code args, encode i = code :: args ∧
      code ∈ ([0x01, 0x10, 0x11, 0x20, 0x21, 0x22, 0x80, 0x81, 0x82, 0x83] : List Byte)
  | .line => ∃ line, encode i = line ++ [newline]
  | .message => i.wellFormed = true → (isResponse (encode i) = true ↔ ∀ m, i ≠ .msgNonresponse m)
  | .request => (encode i).take 4 = [0x02, 0x00, 0x00, 0x00]

theorem EncodedShape.start (size : Nat) (img : Bytes) (c tf tn : Nat) (ci : Word16) (mr : Option Nat) (so : Bool) :
    EncodedShape.Statement (.start size img c tf tn ci mr so) := ⟨_, _, rfl, by decide⟩
theorem EncodedShape.wrOk : EncodedShape.Statement .wrOk := ⟨_, _, rfl, by decide⟩
theorem EncodedShape.wrErr : EncodedShape.Statement .wrErr := ⟨_, _, rfl, by decide⟩
theorem EncodedShape.rdData (bs : Bytes) : EncodedShape.Statement (.rdData bs) := ⟨_, _, rfl, by decide⟩
theorem EncodedShape.rdTimeout : EncodedShape.Statement .rdTimeout := ⟨_, _, rfl, by decide⟩
theorem EncodedShape.rdErr : EncodedShape.Statement .rdErr := ⟨_, _, rfl, by decide⟩
theorem EncodedShape.write (bs : Bytes) : EncodedShape.Statement (.write bs) := ⟨_, _, rfl, by decide⟩
theorem EncodedShape.read (d : Nat) : EncodedShape.Statement (.read d) := ⟨_, _, rfl, by decide⟩
theorem EncodedShape.progress (o : Int) : EncodedShape.Statement (.progress o) := ⟨_, _, rfl, by decide⟩
theorem EncodedShape.result (code : ResultCode) (cause : FailCause) (info : Int) :
    EncodedShape.Statement (.result code cause info) := ⟨_, _, rfl, by decide⟩
theorem EncodedShape.lineStart (text : Bytes) : EncodedShape.Statement (.lineStart text) := ⟨0x06 :: 0x09 :: text, rfl⟩
theorem EncodedShape.lineCont (text : Bytes) : EncodedShape.Statement (.lineCont text) := ⟨0x04 :: 0x14 :: text, rfl⟩
theorem EncodedShape.lineNoise (line : Bytes) : EncodedShape.Statement (.lineNoise line) := ⟨line, rfl⟩
theorem EncodedShape.lineOther (marker : Word16) (rest : Bytes) : EncodedShape.Statement (.lineOther marker rest) :=
  ⟨be16 marker ++ rest, rfl⟩

theorem opOf_cat (res : BitVec 5) (op : BitVec 3) : opOf (res ++ op) = op := by
  revert res op
  decide

theorem EncodedShape.msgReadResponse (hdr : Header) (payload : Bytes) :
    EncodedShape.Statement (.msgReadResponse hdr payload) := by
  intro _
  simp [encode, headerBytes, isResponse, opOf_cat, be16]
theorem EncodedShape.msgWriteResponse (hdr : Header) (payload : Bytes) :
    EncodedShape.Statement (.msgWriteResponse hdr payload) := by
  intro _
  simp [encode, headerBytes, isResponse, opOf_cat, be16]
theorem EncodedShape.msgNonresponse (msg : Bytes) : EncodedShape.Statement (.msgNonresponse msg) := by
  intro h
  simp only [Instr.wellFormed, Bool.not_eq_true'] at h
  simp [encode, h]
theorem EncodedShape.reqEchoCtrl (flag : Int) : EncodedShape.Statement (.reqEchoCtrl flag) := rfl
theorem EncodedShape.reqReset : EncodedShape.Statement .reqReset := rfl
theorem EncodedShape.reqUploadSeg0 (size : Nat) (data : Bytes) : EncodedShape.Statement (.reqUploadSeg0 size data) := rfl
theorem EncodedShape.reqUploadSegN (offset : Nat) (data : Bytes) :
    EncodedShape.Statement (.reqUploadSegN offset data) := rfl

end Sys2Proof.Laws
end

