-- ==== Sys2Proof/Tests/Slice0.lean ====
section
/-! SUPPORT. Tests: ill-formed terms refused, words of the spec decoded, vectors of spec/95_test_vectors.md, and for every statement
with hypotheses a state and operands that meet them. -/

namespace Sys2Proof.Tests

open Sys2Proof.Machine

/-! WellFormed refuses an ill-formed term for each of its checks. -/

theorem test_illformed_start_size : (Instr.start 1 [] 64 0 0 0 none false).wellFormed = false := by decide
theorem test_illformed_success_with_cause : (Instr.result .success .rejected 0).wellFormed = false := by decide
theorem test_illformed_success_with_info : (Instr.result .success .none 1).wellFormed = false := by decide
theorem test_illformed_failure_without_cause : (Instr.result .failure .none 0).wellFormed = false := by decide
theorem test_illformed_start_line_empty : (Instr.lineStart []).wellFormed = false := by decide
theorem test_illformed_start_line_newline : (Instr.lineStart [0x41, 0x0A]).wellFormed = false := by decide
theorem test_illformed_cont_line_empty : (Instr.lineCont []).wellFormed = false := by decide
theorem test_illformed_cont_line_newline : (Instr.lineCont [0x0A]).wellFormed = false := by decide
theorem test_illformed_noise_long : (Instr.lineNoise [1, 2, 3]).wellFormed = false := by decide
theorem test_illformed_noise_newline : (Instr.lineNoise [0x0A]).wellFormed = false := by decide
theorem test_illformed_other_empty : (Instr.lineOther 0x4142 []).wellFormed = false := by decide
theorem test_illformed_other_newline : (Instr.lineOther 0x4142 [0x0A]).wellFormed = false := by decide
theorem test_illformed_other_start_marker : (Instr.lineOther 0x0609 [0x41]).wellFormed = false := by decide
theorem test_illformed_other_cont_marker : (Instr.lineOther 0x0414 [0x41]).wellFormed = false := by decide
theorem test_illformed_other_newline_high : (Instr.lineOther 0x0A41 [0x41]).wellFormed = false := by decide
theorem test_illformed_other_newline_low : (Instr.lineOther 0x410A [0x41]).wellFormed = false := by decide
theorem test_illformed_nonresponse_response : (Instr.msgNonresponse [3, 0, 0, 0, 0, 1, 0, 1]).wellFormed = false := by decide
theorem test_illformed_segment_n_at_zero : (Instr.reqUploadSegN 0 []).wellFormed = false := by decide

/-! Decoding: words written out from 30_encoding.md R71, R72, R75, R77, R80, R86 (operand layouts: log 3, 4). -/

theorem test_decode_start : decode .event [0x01, 0x02, 0x02, 0xAA, 0xBB, 0x80, 0x04, 0x05, 0x03, 0x1D, 0x0F, 0x04, 0x01] = .ok (.start 2 [0xAA, 0xBB] 512 5 3 0x1D0F (some 3) true, []) := by decide
theorem test_decode_wr_ok : decode .event [0x10] = .ok (.wrOk, []) := by decide
theorem test_decode_wr_err : decode .event [0x11] = .ok (.wrErr, []) := by decide
theorem test_decode_rd_data : decode .event [0x20, 0x02, 0x06, 0x09] = .ok (.rdData [6, 9], []) := by decide
theorem test_decode_rd_timeout : decode .event [0x21] = .ok (.rdTimeout, []) := by decide
theorem test_decode_rd_err : decode .event [0x22] = .ok (.rdErr, []) := by decide
theorem test_decode_write : decode .event [0x80, 0x01, 0x0A] = .ok (.write [0x0A], []) := by decide
theorem test_decode_read : decode .event [0x81, 0x7F] = .ok (.read 127, []) := by decide
theorem test_decode_progress : decode .event [0x82, 0x01] = .ok (.progress (-1), []) := by decide
theorem test_decode_result : decode .event [0x83, 0x01, 0x05, 0x02] = .ok (.result .failure .rejected 1, []) := by decide
theorem test_decode_line_start : decode .line [0x06, 0x09, 0x41, 0x41, 0x49, 0x41, 0x41, 0x41, 0x3D, 0x3D, 0x0A] = .ok (.lineStart [0x41, 0x41, 0x49, 0x41, 0x41, 0x41, 0x3D, 0x3D], []) := by decide
theorem test_decode_line_cont : decode .line [0x04, 0x14, 0x2B, 0x67, 0x3D, 0x3D, 0x0A] = .ok (.lineCont [0x2B, 0x67, 0x3D, 0x3D], []) := by decide
theorem test_decode_line_noise : decode .line [0x06, 0x09, 0x0A] = .ok (.lineNoise [6, 9], []) := by decide
theorem test_decode_line_other : decode .line [0x68, 0x65, 0x79, 0x0A] = .ok (.lineOther 0x6865 [0x79], []) := by decide
theorem test_decode_msg_read_response : decode .message [0x01, 0x00, 0x00, 0x01, 0x00, 0x02, 0x03, 0x04, 0xA0] = .ok (.msgReadResponse ⟨0, 0, 1, 2, 3, 4⟩ [0xA0], []) := by decide
theorem test_decode_msg_write_response : decode .message [0x0B, 0x80, 0x12, 0x34, 0x00, 0x01, 0x05, 0x02] = .ok (.msgWriteResponse ⟨1, 0x80, 0x1234, 1, 5, 2⟩ [], []) := by decide
theorem test_decode_msg_nonresponse : decode .message [0x02, 0x00, 0x00, 0x00, 0x00, 0x01, 0x00, 0x01] = .ok (.msgNonresponse [2, 0, 0, 0, 0, 1, 0, 1], []) := by decide
theorem test_decode_msg_short : decode .message [0x03, 0x00, 0x00, 0x00, 0x00, 0x01, 0x00] = .ok (.msgNonresponse [3, 0, 0, 0, 0, 1, 0], []) := by decide
theorem test_decode_req_echo_ctrl : decode .request [0x02, 0x00, 0x00, 0x00, 0x00, 0x00, 0x00, 0x01, 0x02] = .ok (.reqEchoCtrl 1, []) := by decide
theorem test_decode_req_reset : decode .request [0x02, 0x00, 0x00, 0x00, 0x00, 0x00, 0x00, 0x05] = .ok (.reqReset, []) := by decide
theorem test_decode_req_upload_seg0 : decode .request [0x02, 0x00, 0x00, 0x00, 0x00, 0x01, 0x00, 0x01, 0x00, 0x0A, 0x02, 0x07, 0x08] = .ok (.reqUploadSeg0 10 [7, 8], []) := by decide
theorem test_decode_req_upload_segn : decode .request [0x02, 0x00, 0x00, 0x00, 0x00, 0x01, 0x00, 0x01, 0x60, 0x02, 0x07, 0x08] = .ok (.reqUploadSegN 96 [7, 8], []) := by decide
theorem test_decode_reserved_event : decode .event [0x02] = .error .unknownEvent := by decide
theorem test_decode_reserved_request : decode .request [2, 0, 0, 0, 0, 2, 0, 1] = .error .unknownRequest := by decide
theorem test_encode_progress : encode (.progress (-1)) = [0x82, 0x01] := by decide
theorem test_table_word_req : decodeTableWord 64 0x0200000000010001 = some (.reqUploadSeg0 0 []) := by decide
theorem test_table_word_line : decodeTableWord 16 0x0414 = some (.lineCont [0]) := by decide

/-! Codec vectors: V-CRC, V-B64, V-ENC. -/

theorem test_crc_check : crc16 0x0000 [0x31, 0x32, 0x33, 0x34, 0x35, 0x36, 0x37, 0x38, 0x39] = 0x31C3 := by decide +kernel
theorem test_crc_check_ffff : crc16 0xFFFF [0x31, 0x32, 0x33, 0x34, 0x35, 0x36, 0x37, 0x38, 0x39] = 0x29B1 := by decide +kernel
theorem test_crc_ok : crcOk 0 [0x41, 0x58, 0xE5] = true ∧ crcOk 0 [0x41, 0x58, 0xE4] = false := by decide
theorem test_b64_encode : b64Encode [0xFB, 0xFF] = [0x2B, 0x2F, 0x38, 0x3D] ∧ b64Encode [0x4D] = [0x54, 0x51, 0x3D, 0x3D] := by decide
theorem test_b64_decode : b64Decode [0x41, 0x42, 0x3D, 0x3D] = some [0] ∧ b64Decode [0x41, 0x41, 0x3D, 0x41] = none ∧ b64Decode [0x41, 0x41, 0x3D, 0x3D, 0x41, 0x41, 0x41, 0x41] = none := by
  decide
theorem test_encode_message : encodeMessage 0 [0x31, 0x32, 0x33, 0x34, 0x35, 0x36, 0x37, 0x38, 0x39] = .ok [[0x06, 0x09, 0x41, 0x41, 0x73, 0x78, 0x4D, 0x6A, 0x4D, 0x30, 0x4E, 0x54, 0x59, 0x33, 0x4F, 0x44, 0x6B, 0x78, 0x77, 0x77, 0x3D, 0x3D, 0x0A]] := by
  decide +kernel

/-! States. -/

/-- An idle machine with the given events in store. -/
def idleWith (port : Bytes) : State := { State.reset with port := port, seq := 1 }

/-- The first WRITE of the program P1. -/
def p1Lines : Bytes :=
  [0x06, 0x09, 0x41, 0x44, 0x59, 0x43, 0x41, 0x41, 0x41, 0x73, 0x41, 0x41, 0x45, 0x41, 0x41, 0x61, 0x56, 0x69, 0x58, 0x32, 0x68, 0x49, 0x41, 0x67, 0x41, 0x41, 0x41, 0x41,
   0x41, 0x42, 0x41, 0x41, 0x46, 0x6A, 0x63, 0x32, 0x68, 0x68, 0x51, 0x47, 0x4E, 0x76, 0x5A, 0x6D, 0x59, 0x41, 0x59, 0x32, 0x78, 0x6C, 0x62, 0x67, 0x70, 0x6B, 0x5A, 0x47,
   0x46, 0x30, 0x59, 0x55, 0x6F, 0x41, 0x41, 0x51, 0x49, 0x44, 0x42, 0x41, 0x55, 0x47, 0x42, 0x77, 0x67, 0x4A, 0x45, 0x4C, 0x4D, 0x3D, 0x0A]

/-- The image 00 01 … of `n` bytes. -/
def ramp (n : Nat) : List Host.Cell := Memory.ofBytes ((List.range n).map (BitVec.ofNat 8))

/-- P1 after START: PrepareFirst is due. -/
def preparing : State :=
  { State.reset with size := 10, img := ramp 10, chunkCfg := 64, effChunk := 32, engine := .prepareFirst }

/-- P1 with its WRITE sent. -/
def sending (port : Bytes) : State :=
  { preparing with
    cur := ⟨0, 10, .seg0⟩, engine := .sendAndPrepareNext, curLines := p1Lines, seq := 1, out := [.write p1Lines],
    outstanding := some .write, port := port }

/-- S = 100, CHUNK_CFG = 512, segment 0 sent, its answer awaited. -/
def awaiting (port : Bytes) : State :=
  { State.reset with
    size := 100, img := ramp 100, chunkCfg := 512, effChunk := 368, cur := ⟨0, 32, .seg0⟩, next := some ⟨32, 68, .segN⟩,
    nextLines := some [], engine := .awaitAck, outstanding := some .read, deadline := 7, seq := 2, port := port }

/-- The same, holding `msg` for the response test. -/
def holding (msg : Bytes) : State := { awaiting [] with outstanding := none, scan := .message msg }

/-- The same with segment 0 acknowledged: Advance is due. -/
def advancing : State := { awaiting [] with outstanding := none, engine := .advance, ack := 32 }

/-- The same with the answer timed out: Retransmit is due. -/
def retransmitting (bound : Option Nat) (retry : Nat) : State :=
  { awaiting [] with outstanding := none, engine := .retransmit, maxRetries := bound, retry := retry }

/-- The same, scanning `acc`. -/
def scanning (acc : Bytes) (rsm : Rsm) : State :=
  { awaiting [] with outstanding := none, scan := .lines, acc := acc, fresh := false, rsm := rsm }

/-- A finished transfer with the given events in store. -/
def finished (port : Bytes) : State :=
  { awaiting port with outstanding := none, engine := .done, result := some .success, ack := 100 }

/-- START S=0 IMG= CHUNK_CFG=`c` as port bytes, for `c` below 128. -/
def startBytes (c : Byte) : Bytes := [0x01, 0, 0, c, 5, 3, 0, 0, 0, 0]

/-- A field of the state after an instruction or step. -/
def after {α : Type} (f : State → α) : Outcome → Option α
  | .next t => some (f t)
  | _ => none

/-- The fault of an outcome. -/
def faultOf : Outcome → Option Fault
  | .fault f => some f
  | _ => none

/-- The refusal of an outcome. -/
def refusalOf : Outcome → Option Refusal
  | .refused r => some r
  | _ => none

/-! One-step vectors: V-MSG, V-DEC, V-ENG, P1. -/

theorem test_start_ve1 :
    after (fun t => (t.engine, t.effChunk, t.fresh)) (exec (.start 1 [9] 512 0 0 0 none false) (idleWith []))
      = some (.prepareFirst, 368, true) := by decide
theorem test_start_ve3 :
    faultOf (exec (.start 0 [] 2049 0 0 0 none false) (idleWith [])) = some .configRange := by decide
theorem test_prepare_first_p1 :
    after (fun t => (t.emits, t.seq)) (step preparing) = some ([.write p1Lines], 1) := by decide +kernel
theorem test_wr_ok_p1 :
    after (fun t => (t.engine, t.next, t.wire, t.outstanding)) (exec .wrOk (sending []))
      = some (.awaitAck, none, p1Lines, none) := by decide
theorem test_wr_err_ve6 :
    after (fun t => (t.engine, t.failCause, t.failInfo)) (exec .wrErr (sending []))
      = some (.failed, .transportWrite, 0) := by decide
theorem test_rd_err_ve7 :
    after (fun t => (t.failCause, t.failInfo)) (exec .rdErr { awaiting [] with cur := ⟨32, 68, .segN⟩ })
      = some (.transportRead, 32) := by decide
theorem test_rd_timeout :
    after (fun t => (t.engine, t.outstanding)) (exec .rdTimeout (awaiting [])) = some (.retransmit, none) := by decide
theorem test_rd_data_r150 :
    after (fun t => (t.acc, t.fresh)) (exec (.rdData [0x0D, 0x0A, 0x06, 0x09, 0x41]) (awaiting []))
      = some ([0x06, 0x09, 0x41], false) := by decide
theorem test_rd_data_crlf_kept :
    after (fun t => t.acc) (exec (.rdData [0x0D, 0x41]) { awaiting [] with acc := [0x41], fresh := false })
      = some [0x41, 0x0D, 0x41] := by decide
theorem test_write :
    after (fun t => (t.out, t.outstanding)) (exec (.write [1]) (idleWith [])) = some ([.write [1]], some .write) := by decide
theorem test_read :
    after (fun t => (t.out, t.outstanding)) (exec (.read 9) (idleWith [])) = some ([.read 9], some .read) := by decide
theorem test_progress :
    after (fun t => (t.out, t.engine)) (exec (.progress 32) advancing) = some ([.progress 32], .advance) := by decide
theorem test_result :
    after (fun t => (t.out, t.engine)) (exec (.result .success .none 0) (finished []))
      = some ([.result .success .none 0], .done) := by decide
theorem test_line_start_r157 :
    after (fun t => (t.rsm, t.scan)) (exec (.lineStart [0x41, 0x41, 0x4E, 0x42, 0x57, 0x4F, 0x55, 0x3D])
      (scanning [] .idle)) = some (.idle, .message [0x41]) := by decide
theorem test_line_start_dv10 :
    after (fun t => (t.failCause, t.failInfo)) (exec (.lineStart [0x41, 0x41, 0x46, 0x42]) (scanning [] .idle))
      = some (.integrity, 3) := by decide
theorem test_line_cont_completes :
    after (fun t => (t.rsm, t.scan)) (exec (.lineCont [0x57, 0x4F, 0x55, 0x3D])
      (scanning [] (.collect 3 [0x41]))) = some (.idle, .message [0x41]) := by decide
theorem test_line_cont_dv7 :
    after (fun t => (t.rsm, t.engine)) (exec (.lineCont [0x41, 0x41, 0x41, 0x41]) (scanning [] .idle))
      = some (.idle, .awaitAck) := by decide
theorem test_line_noise :
    after (fun t => (t.rsm, t.scan)) (exec (.lineNoise [0x61, 0x62]) (scanning [] (.collect 5 [1])))
      = some (.collect 5 [1], .lines) := by decide
theorem test_line_other :
    after (fun t => (t.rsm, t.scan)) (exec (.lineOther 0x6865 [0x79]) (scanning [] (.collect 5 [1])))
      = some (.collect 5 [1], .lines) := by decide
theorem test_msg_write_response_ve10 :
    after (fun t => (t.failCause, t.failInfo)) (exec (.msgWriteResponse ⟨0, 0, 10, 1, 0, 1⟩
      [0xA2, 0x62, 0x72, 0x63, 0x01, 0x63, 0x6F, 0x66, 0x66, 0x00]) (holding [])) = some (.rejected, 1) := by decide
theorem test_msg_write_response_ve12 :
    after (fun t => (t.failCause, t.failInfo)) (exec (.msgWriteResponse ⟨0, 0, 11, 1, 0, 1⟩
      [0xA2, 0x62, 0x72, 0x63, 0x00, 0x63, 0x6F, 0x66, 0x66, 0x18, 0x29])
      { holding [] with size := 40, cur := ⟨32, 8, .segN⟩ }) = some (.overrun, 41) := by decide
theorem test_msg_read_response_ve13 :
    after (fun t => (t.engine, t.emits)) (exec (.msgReadResponse ⟨0, 0, 0xFFFF, 1, 0, 1⟩
      [0xA2, 0x62, 0x72, 0x63, 0x00, 0x63, 0x6F, 0x66, 0x66, 0x18, 0x64]) (holding []))
      = some (.done, [.progress 100, .result .success .none 0]) := by decide
theorem test_msg_read_response_last_off :
    after (fun t => (t.engine, t.ack)) (exec (.msgReadResponse ⟨0, 0, 0, 1, 0, 1⟩
      [0xA2, 0x63, 0x6F, 0x66, 0x66, 0x01, 0x63, 0x6F, 0x66, 0x66, 0x20]) (holding []))
      = some (.retransmit, -1) := by decide
theorem test_msg_nonresponse_dv8 :
    after (fun t => (t.scan, t.engine)) (exec (.msgNonresponse [2, 0, 0, 0, 0, 1, 0, 1]) (holding []))
      = some (.lines, .awaitAck) := by decide
theorem test_req_seg0 :
    after (fun t => (t.built, t.seq)) (exec (.reqUploadSeg0 10 [0x00, 0x01, 0x02, 0x03, 0x04, 0x05, 0x06, 0x07, 0x08, 0x09])
      { idleWith [] with seq := 0 }) = some (some
      ([0x02, 0x00, 0x00, 0x2C, 0x00, 0x01, 0x00, 0x01, 0xA5, 0x62, 0x5F, 0x68, 0x48, 0x02, 0x00, 0x00, 0x00, 0x00, 0x01, 0x00, 0x01, 0x63, 0x73, 0x68, 0x61, 0x40] ++
       [0x63, 0x6F, 0x66, 0x66, 0x00, 0x63, 0x6C, 0x65, 0x6E, 0x0A, 0x64, 0x64, 0x61, 0x74, 0x61, 0x4A, 0x00, 0x01, 0x02, 0x03, 0x04, 0x05, 0x06, 0x07, 0x08, 0x09]), 1) := by decide
theorem test_req_segn :
    after (fun t => (t.built, t.seq)) (exec (.reqUploadSegN 96 [0x60, 0x61, 0x62, 0x63]) { idleWith [] with seq := 5 })
      = some (some
      ([0x02, 0x00, 0x00, 0x1D, 0x00, 0x01, 0x05, 0x01, 0xA3, 0x62, 0x5F, 0x68, 0x48, 0x02, 0x00, 0x00, 0x00, 0x00, 0x01, 0x05] ++
       [0x01, 0x63, 0x6F, 0x66, 0x66, 0x18, 0x60, 0x64, 0x64, 0x61, 0x74, 0x61, 0x44, 0x60, 0x61, 0x62, 0x63]), 6) := by decide
theorem test_req_reset :
    after (fun t => (t.built.map (·.take 8), t.seq)) (exec .reqReset { idleWith [] with seq := 7 })
      = some (some [2, 0, 0, 13, 0, 0, 7, 5], 8) := by decide
theorem test_req_echo_wraps :
    after (fun t => (t.built.map (·.take 8), t.seq)) (exec (.reqEchoCtrl 0) { idleWith [] with seq := 255 })
      = some (some [2, 0, 0, 19, 0, 0, 255, 1], 0) := by decide
theorem test_retry_ve18 :
    after (fun t => (t.failCause, t.failInfo)) (step (retransmitting (some 0) 0)) = some (.retryExhausted, 0) := by decide
theorem test_retry_ve19 :
    after (fun t => (t.engine, t.retry, t.tmo, t.off)) (step (retransmitting (some 2) 1))
      = some (.sendAndPrepareNext, 2, .first, 0) := by decide +kernel
theorem test_advance_r225 :
    after (fun t => (t.off, t.cur, t.tmo, t.next)) (step advancing) = some (32, ⟨32, 68, .segN⟩, .next, none) := by decide
theorem test_need_more_ve21 :
    after (fun t => (t.emits, t.scan)) (step (scanning [6, 9, 0x41] .idle)) = some ([.read 7], .off) := by decide

/-! Witnesses: for every statement with hypotheses, a state and operands that meet them, clause by clause at the ends of its ranges. -/

theorem witness_DecodeOfEncodeIsTheInstruction :
    (Instr.reqUploadSegN 1 []).wellFormed = true ∧ (Instr.reqUploadSegN 1 []).layer ≠ .message ∧
    (Instr.msgNonresponse [3]).wellFormed = true ∧ (Instr.msgNonresponse [3]).layer = .message := by decide

theorem witness_ReceivedLineIsItsClass :
    ((0x0A : Byte) ∉ ([0x06, 0x09] : Bytes) ∧ ([0x06, 0x09] : Bytes).length ≤ 2) ∧
    ((0x0A : Byte) ∉ ([0x06, 0x09, 0x41] : Bytes) ∧ 2 < ([0x06, 0x09, 0x41] : Bytes).length) ∧
    ((0x0A : Byte) ∉ ([0x04, 0x14, 0x41] : Bytes) ∧ 2 < ([0x04, 0x14, 0x41] : Bytes).length) ∧
    ((0x0A : Byte) ∉ ([0x06, 0x14, 0x41] : Bytes) ∧ ([0x06, 0x14, 0x41] : Bytes).take 2 ≠ [0x06, 0x09] ∧
      ([0x06, 0x14, 0x41] : Bytes).take 2 ≠ [0x04, 0x14]) := by decide

theorem witness_ResponsesAreOpOneAndThree : isResponse [3, 0, 0, 0, 0, 1, 0] = false := by decide

theorem witness_CrcResidueIsZero : 2 ≤ ([0x00, 0x00] : Bytes).length := by decide

theorem witness_CrcSeesEveryShortBurst :
    (checksum 0x1D0F [] = [0x1D, 0x0F] ∧ (1 : Word16) ≠ 0) ∧
    checksum 0 [0x41] = [] ++ [0x41, 0x58, 0xE5] ++ [] ∧ (0x8001 : Word16) ≠ 0 ∧ (0 : Nat) ≤ 8 ∧ (8 : Nat) ≤ 8 := by
  decide +kernel

theorem witness_QuantumAlignment : ([0x4D, 0x61, 0x6E] : Bytes).length % 3 = 0 := by decide

theorem witness_BaseSixtyFourAcceptsExactly :
    ((0x3D : Byte) ∉ ([0x41, 0x41] : Bytes) ∧ b64Decode ([0x41, 0x41] ++ List.replicate 2 0x3D) = some [0]) ∧
    b64Decode ([0x41, 0x41, 0x41, 0x41] ++ List.replicate 0 0x3D) = some [0, 0, 0] ∧
    (b64Val 0x41 = some 0 ∧ b64Val 0x50 = some 15 ∧ (0 : BitVec 6) >>> 4 = 15 >>> 4) ∧
    (b64Val 0x44 = some 3 ∧ (0 : BitVec 6) >>> 2 = 3 >>> 2) := by decide +kernel

/-- V-B64: the pad bits are dropped (40_codec_primitives.md R106). -/
theorem test_b64_pad_bits :
    b64Decode [0x41, 0x50, 0x3D, 0x3D] = some [0] ∧ b64Decode [0x41, 0x51, 0x3D, 0x3D] = some [1] ∧
    b64Decode [0x41, 0x41, 0x44, 0x3D] = some [0, 0] := by decide

theorem witness_EncodeIsTotalToItsBound :
    (List.replicate 65533 (0 : Byte)).length ≤ 65533 ∧ 65533 < (List.replicate 65534 (0 : Byte)).length := by
  simp only [List.length_replicate]; decide

theorem witness_LinesOfEveryMessage :
    encodeMessage 0 [] = .ok [[0x06, 0x09, 0x41, 0x41, 0x49, 0x41, 0x41, 0x41, 0x3D, 0x3D, 0x0A]] := by decide +kernel

theorem witness_DecoderReadsBackTheEncoder :
    ([[0x06], []] : List Bytes).flatten ++ [0x09, 0x41, 0x41, 0x49, 0x41, 0x41, 0x41, 0x3D, 0x3D, 0x0A]
      = ([[0x06, 0x09, 0x41, 0x41, 0x49, 0x41, 0x41, 0x41, 0x3D, 0x3D, 0x0A]] : List Bytes).flatten ∧
    encodeMessage 0 [] = .ok [[0x06, 0x09, 0x41, 0x41, 0x49, 0x41, 0x41, 0x41, 0x3D, 0x3D, 0x0A]] ∧
    ([0x09, 0x41, 0x41, 0x49, 0x41, 0x41, 0x41, 0x3D, 0x3D, 0x0A] : Bytes) ≠ [] := by decide +kernel

theorem witness_StartLineBeginsACollection :
    b64Decode [0x41] = none ∧ b64Decode [0x41, 0x41, 0x3D, 0x3D] = some [0] ∧
    b64Decode [0x41, 0x41, 0x46, 0x42] = some [0, 1, 0x41] ∧
    b64Decode [0x41, 0x41, 0x49, 0x3D] = some [0, 2] := by decide +kernel

theorem witness_ContinuationLineExtendsTheCollection :
    (scanning [] .idle).rsm = .idle ∧ (scanning [] (.collect 2 [])).rsm = .collect 2 [] ∧
    2 ≤ (2 : Word16).toNat ∧ b64Decode [0x41] = none ∧ b64Decode [0x41, 0x41, 0x3D, 0x3D] = some [0] := by
  decide +kernel

theorem witness_IgnoredLinesLeaveTheCollection :
    (scanning [0x06, 0x09, 0x0A, 7] (.collect 5 [1])).acc = [0x06, 0x09] ++ 0x0A :: [7] ∧
    (scanning [0x06, 0x14, 0x41, 0x0A] .idle).acc = [0x06, 0x14, 0x41] ++ 0x0A :: [] ∧
    (scanning [0x04, 0x14, 0x41, 0x0A] .idle).acc = [0x04, 0x14, 0x41] ++ 0x0A :: [] ∧
    (scanning [0x04, 0x14, 0x41, 0x0A] .idle).rsm = .idle ∧
    (scanning [] .idle).resetLine = false ∧ (scanning [] .idle).emits = [] ∧ (scanning [] .idle).scan = .lines := by
  decide

theorem witness_NoLineAsksForMore :
    (0x0A : Byte) ∉ (scanning [0x06, 0x09] .idle).acc ∧ (scanning [0x06, 0x09] .idle).resetLine = false ∧
    (scanning [0x06, 0x09] .idle).emits = [] ∧ (scanning [0x06, 0x09] .idle).scan = .lines := by decide

/-- A request with `n` data bytes under the test codec takes 26 bytes more, for `n` of 256 to 65535. -/
theorem segN_payload_length (n : Nat) (h1 : 256 ≤ n) (h2 : n < 65536) :
    (requestPayload (idleWith []).codec (idleWith []).seq 1 1
      [(keyOff, .int ((1 : Nat) : Int)), (keyData, .bytes (List.replicate n 0))]).length = n + 26 := by
  have e1 : cborHead 2 n = [0x59] ++ beBytes 2 n := by
    unfold cborHead
    rw [if_neg (by omega), if_neg (by omega), if_pos (by omega)]
    rfl
  simp [requestPayload, idleWith, State.reset, encPayload, cborEnc, cborPair, cborValue, e1, keyHdr, keyOff, keyData,
    be16, beBytes]
  simp [cborHead]
  omega

theorem witness_RequestBuildersBuild :
    (∃ (offset : Nat) (data : Bytes), Instr.reqUploadSegN 1 (List.replicate 65509 0) = .reqUploadSegN offset data ∧
      (requestPayload (idleWith []).codec (idleWith []).seq 1 1
        [(keyOff, .int offset), (keyData, .bytes data)]).length ≤ 65535) ∧
    (∃ (offset : Nat) (data : Bytes), Instr.reqUploadSegN 1 (List.replicate 65510 0) = .reqUploadSegN offset data ∧
      65535 < (requestPayload (idleWith []).codec (idleWith []).seq 1 1
        [(keyOff, .int offset), (keyData, .bytes data)]).length) :=
  ⟨⟨1, _, rfl, by rw [segN_payload_length _ (by omega) (by omega)]⟩,
   ⟨1, _, rfl, by rw [segN_payload_length _ (by omega) (by omega)]; omega⟩⟩

theorem witness_StartLoadsAndResets :
    (idleWith []).engine = .idle ∧ (finished []).engine = .done ∧ ([9] : Bytes).length = 1 ∧ 64 ≤ 64 ∧ 2048 ≤ 2048 := by
  decide

theorem witness_StartIsTurnedAway :
    (idleWith []).engine = .idle ∧ ([] : Bytes).length = 0 ∧ 63 < 64 ∧ 2048 < 2049 ∧ ([] : Bytes).length ≠ 1 ∧
    (awaiting []).engine ≠ .idle ∧ (awaiting []).engine ≠ .done ∧ (awaiting []).engine ≠ .failed := by decide

/-- An awaited write whose next segment has `n` bytes. -/
def longNext (n : Nat) : State := { sending [] with img := [], size := n + 10, effChunk := n }

theorem longNext_length (n : Nat) (h1 : 256 ≤ n) (h2 : n < 65536) :
    (segmentMessage (longNext n) ⟨10, min (n + 10 - 10) n, .segN⟩).length = n + 34 := by
  have e1 : cborHead 2 n = [0x59] ++ beBytes 2 n := by
    unfold cborHead
    rw [if_neg (by omega), if_neg (by omega), if_pos (by omega)]
    rfl
  simp [segmentMessage, uploadFields, requestMessage, requestPayload, longNext, sending, preparing, State.reset, encPayload, cborEnc,
    cborPair, cborValue, e1, keyHdr, keyOff, keyData, be16, be16Nat, beBytes]
  simp [cborHead]
  omega

theorem witness_WriteDonePreparesNext :
    ((sending []).outstanding = some .write ∧ (sending []).size ≤ (sending []).cur.off + (sending []).cur.len) ∧
    ((longNext 65499).outstanding = some .write ∧ (longNext 65499).cur.off + (longNext 65499).cur.len < (longNext 65499).size ∧
      (segmentMessage (longNext 65499) ⟨10, min (65499 + 10 - 10) 65499, .segN⟩).length ≤ 65533) ∧
    65533 < (segmentMessage (longNext 65500) ⟨10, min (65500 + 10 - 10) 65500, .segN⟩).length :=
  ⟨by decide, ⟨rfl, by decide, by rw [longNext_length _ (by omega) (by omega)]⟩,
   by rw [longNext_length _ (by omega) (by omega)]; omega⟩

theorem witness_TransportErrorsFailAtOnce :
    (sending []).outstanding = some .write ∧ (awaiting []).outstanding = some .read := by decide

theorem witness_TimeoutGoesToRetransmit : (awaiting []).outstanding = some .read := by decide

theorem witness_ReadDataFeedsTheDecoder : (awaiting []).outstanding = some .read := by decide

theorem witness_WrongAnswersAreRefused :
    (awaiting []).outstanding ≠ some .write ∧ (sending []).outstanding ≠ some .read := by decide

theorem witness_ReadDataRunsDecPoll :
    (awaiting []).resetLine = false ∧ (awaiting []).emits = [] ∧ (awaiting []).outstanding = some .read := by decide

theorem witness_WholeResponseIsAnswered :
    (awaiting []).resetLine = false ∧ (awaiting []).emits = [] ∧ (awaiting []).outstanding = some .read ∧
    (awaiting []).acc = [] ∧ (awaiting []).fresh = true ∧ (awaiting []).rsm = .idle ∧
    isResponse [3, 0, 0, 0, 0, 1, 0, 1] = true ∧
    ∃ lines, encodeMessage (awaiting []).crcInit [3, 0, 0, 0, 0, 1, 0, 1] = .ok lines := by
  refine ⟨rfl, rfl, rfl, rfl, rfl, rfl, by decide, _, rfl⟩

/-- P1 with a codec that makes the first request `n` bytes longer. -/
def preparingLong (n : Nat) : State := { preparing with codec := .padded n }

/-- The first request of P1 is 52 bytes long. -/
theorem preparingLong_length (n : Nat) :
    (segmentMessage (preparingLong n) ⟨0, min 32 (preparingLong n).size, .seg0⟩).length = n + 52 := by
  have h : (segmentMessage preparing ⟨0, min 32 preparing.size, .seg0⟩).length = 52 := by decide +kernel
  simp only [segmentMessage, requestMessage, requestPayload, List.length_append, preparingLong, preparing, State.reset, encPayload, uploadFields,
    List.length_replicate, List.length_cons, List.length_nil, be16, be16Nat] at h ⊢
  omega

theorem witness_PrepareFirstBuildsSegmentZero :
    (quiet (preparingLong 65481) ∧ (preparingLong 65481).engine = .prepareFirst ∧
      (segmentMessage (preparingLong 65481) ⟨0, min 32 (preparingLong 65481).size, .seg0⟩).length ≤ 65533) ∧
    65533 < (segmentMessage (preparingLong 65482) ⟨0, min 32 (preparingLong 65482).size, .seg0⟩).length :=
  ⟨⟨⟨rfl, rfl, rfl⟩, rfl, by rw [preparingLong_length]⟩, by rw [preparingLong_length]; omega⟩

theorem witness_RetransmitRebuildsTheSegment :
    (quiet (retransmitting (some 0) 0) ∧ (retransmitting (some 0) 0).engine = .retransmit ∧ (0 : Nat) ≤ 0) ∧
    (quiet (retransmitting (some 1) 0) ∧ (retransmitting (some 1) 0).maxRetries = some 1 ∧ (0 : Nat) < 1 ∧
      (segmentMessage (retransmitting (some 1) 0) ⟨0, 32, .seg0⟩).length ≤ 65533) :=
  ⟨⟨⟨rfl, rfl, rfl⟩, rfl, Nat.le_refl _⟩, ⟨rfl, rfl, rfl⟩, rfl, by decide, by decide +kernel⟩

/-- A retransmission of a segment of `n` bytes. -/
def longCur (n : Nat) : State :=
  { longNext n with engine := .retransmit, outstanding := none, cur := ⟨10, n, .segN⟩ }

theorem witness_RetransmitRebuildsTheSegment_tooLong :
    quiet (longCur 65500) ∧ (longCur 65500).cur.off + (longCur 65500).cur.len ≤ (longCur 65500).size ∧
    65533 < (segmentMessage (longCur 65500) (longCur 65500).cur).length := by
  refine ⟨⟨rfl, rfl, rfl⟩, by decide, ?_⟩
  have h := longNext_length 65500 (by omega) (by omega)
  have e : segmentMessage (longCur 65500) (longCur 65500).cur
      = segmentMessage (longNext 65500) ⟨10, min (65500 + 10 - 10) 65500, .segN⟩ := rfl
  rw [e, h]; omega

theorem witness_AdvanceAdoptsTheNextSegment :
    quiet advancing ∧ advancing.engine = .advance ∧ advancing.next = some ⟨32, 68, .segN⟩ ∧ advancing.nextLines = some [] ∧
    advancing.ack = ((32 : Nat) : Int) ∧ (32 : Nat) ≠ advancing.size ∧
    { advancing with ack := 100 }.ack = ((100 : Nat) : Int) ∧ (100 : Nat) = advancing.size :=
  ⟨⟨rfl, rfl, rfl⟩, rfl, rfl, rfl, rfl, by decide, rfl, rfl⟩

theorem witness_SegmentsTileTheImage : 1 ≤ (1 : Nat) := by decide

theorem witness_NextSegmentFollows :
    (10 : Nat) ≤ (⟨0, 10, .seg0⟩ : Segment).off + (⟨0, 10, .seg0⟩ : Segment).len ∧
    (⟨0, 10, .seg0⟩ : Segment).off + (⟨0, 10, .seg0⟩ : Segment).len < 11 ∧ 1 ≤ (1 : Nat) := by decide

theorem witness_ImageReadsBackAsLoaded :
    ∃ t, exec (.start 1 [9] 64 0 0 0 none false) (idleWith []) = .next t ∧ 1 + 0 ≤ 1 ∧ 1 < 1 + 1 := by
  refine ⟨_, rfl, by decide, by decide⟩

/-- A call of REQ_RESET in store between transfers. -/
def calling (port : Bytes) : State := { idleWith port with calls := [2, 0, 0, 0, 0, 0, 0, 5] }

/-- Segment 0 sent to a device that never answers. -/
def unanswered : State := { awaiting [] with standing := [0x21, 0x10] }

theorem witness_StepRunsTheDecodedInstruction :
    (sending []).resetLine = false ∧ { advancing with emits := [.progress 32] }.emits = [.progress 32] ∧
    ((holding [2]).emits = [] ∧ (holding [2]).scan = .message [2] ∧ decode .message [2] = .ok (.msgNonresponse [2], [])) ∧
    decode .line (scanning [0x61, 0x0A, 7] .idle).acc = .ok (.lineNoise [0x61], [7]) ∧
    (¬ callsWait (calling []) ∧ decode .request (calling []).calls = .ok (.reqReset, [])) ∧
    (callsWait (sending [0x10]) ∧ (idleWith [0x10]).calls = [] ∧ (sending [0x10]).port ≠ [] ∧
      decode .event (sending [0x10]).port = .ok (.wrOk, []) ∧ outEvent? .wrOk = none ∧ (sending [0x10]).scan = .off ∧
      (sending [0x10]).engine ≠ .prepareFirst ∧ unanswered.port = [] ∧
      decode .event unanswered.standing = .ok (.rdTimeout, [0x10])) := by
  unfold callsWait; decide

/-- 20_memory.md R61: a call waits for the answer to the WRITE, and runs between transfers. -/
theorem test_call_waits :
    after (fun t => (t.calls, t.engine)) (step { sending [0x10] with calls := (calling []).calls })
      = some ((calling []).calls, .awaitAck) ∧
    after (fun t => (t.calls, t.port)) (step (calling [0x10])) = some ([], [0x10]) := by decide

theorem witness_WithoutAnEventTheMachineWaits :
    (idleWith [0xFF]).resetLine = false ∧ (idleWith [0xFF]).emits = [] ∧ (idleWith [0xFF]).scan = .off ∧
    (idleWith [0xFF]).engine = .idle ∧ (idleWith [0xFF]).calls = [] ∧ inputBytes (idleWith [0xFF]) ≠ [] ∧ (idleWith []).port = [] ∧ (idleWith []).standing = [] ∧
    decodeEvent (inputBytes (idleWith [0x82, 0])) = .ok (.progress 0, []) ∧ outEvent? (.progress 0) = some (.progress 0) ∧
    decodeEvent (inputBytes (idleWith [0xFF])) = .error .unknownEvent ∧ callsWait (sending []) := by
  unfold callsWait; decide

theorem witness_PowerOnResetAtAnyTime : { awaiting [] with resetLine := true }.resetLine = true := by decide

theorem witness_StartOpensASession :
    (idleWith []).engine = .idle ∧ ([9] : Bytes).length = 1 ∧ (idleWith []).resetLine = false ∧ (idleWith []).emits = [] ∧
    (requestPayload (idleWith []).codec 0 1 1 [(keySha, .bytes []), (keyOff, .int 0), (keyLen, .int 1),
      (keyData, .bytes (([9] : Bytes).take 32))]).length ≤ 65525 := by decide

theorem inv_idleWith (port : Bytes) : Inv (idleWith port) := by
  constructor
  · constructor <;> simp [idleWith, State.reset, Memory.wf, Memory.wfFrom]
  · simp [portDiscipline, idleWith, State.reset]

theorem ramp_wf (n : Nat) : Memory.wf (ramp n) = true := Memory.ofBytes_wf _

theorem inv_advancing : Inv advancing := by
  constructor
  · constructor <;> simp [advancing, awaiting, State.reset, ramp_wf]
    rfl
  · simp [portDiscipline, advancing, awaiting, State.reset]

theorem inv_finished (port : Bytes) : Inv (finished port) := by
  constructor
  · constructor <;> simp [finished, awaiting, State.reset, ramp_wf]
  · simp [portDiscipline, finished, awaiting, State.reset]

theorem inv_sending (port : Bytes) : Inv (sending port) := by
  constructor
  · constructor <;> simp [sending, preparing, State.reset, ramp_wf]
  · simp [portDiscipline, sending, preparing, State.reset]

theorem sending_lines (port : Bytes) : buildSegment { sending port with seq := 0 } (sending port).cur = .ok p1Lines := by
  show buildSegment { sending [] with seq := 0 } (sending []).cur = .ok p1Lines
  decide +kernel

theorem witness_AdvanceNeverMeetsTheEnd : Inv advancing ∧ quiet advancing ∧ advancing.engine = .advance :=
  ⟨inv_advancing, ⟨rfl, rfl, rfl⟩, rfl⟩

theorem witness_EveryStepKeepsTheInvariant : Inv advancing ∧ ∃ t, step advancing = .next t := ⟨inv_advancing, _, rfl⟩

theorem witness_EveryStepKeepsTheLines : WireInv (sending [0x10]) ∧ ∃ t, step (sending [0x10]) = .next t :=
  ⟨⟨fun _ => ⟨0, sending_lines _⟩, fun _ _ h => by cases h⟩, _, rfl⟩

theorem witness_OneRequestInFlight :
    Inv (sending [0x10]) ∧ OneInFlight (sending [0x10]) ∧ ∃ t, step (sending [0x10]) = .next t :=
  ⟨inv_sending _, ⟨rfl, fun _ => rfl⟩, _, rfl⟩

theorem witness_CallsWaitForTheTransfer :
    (sending [0x10]).resetLine = false ∧ callsWait (sending [0x10]) ∧ callsWait advancing ∧
    (∃ t, step { sending [0x10] with calls := [2] } = .next t) ∧ ∃ t, step { advancing with calls := [2] } = .next t :=
  ⟨rfl, .inl (by decide), .inr (by decide), ⟨_, rfl⟩, _, rfl⟩

theorem witness_CommittedOffsetOnlyAdvances :
    Inv advancing ∧ advancing.resetLine = false ∧ advancing.engine ≠ .prepareFirst ∧
    ∃ t, step advancing = .next t ∧ t.engine ≠ .prepareFirst ∧ t.off = 32 :=
  ⟨inv_advancing, rfl, by decide, _, rfl, by decide, rfl⟩

theorem witness_OnlyStartWritesTheConfiguration :
    (∃ t, step (idleWith (startBytes 64)) = .next t ∧ (idleWith (startBytes 64)).resetLine = false) ∧
    ∃ t, step advancing = .next t := ⟨⟨_, rfl, rfl⟩, _, rfl⟩

theorem witness_TerminalStatesAreLeftByStartOnly :
    Inv (finished (startBytes 64)) ∧ (finished (startBytes 64)).engine = .done ∧
    ∃ t, step (finished (startBytes 64)) = .next t := ⟨inv_finished _, rfl, _, rfl⟩

theorem witness_EveryEndIsReported :
    (∃ t, step (sending [0x11]) = .next t ∧ (sending [0x11]).engine ≠ .failed ∧ t.engine = .failed) ∧
    ∃ t, step { advancing with ack := 100 } = .next t ∧ { advancing with ack := 100 }.engine ≠ .done ∧ t.engine = .done :=
  ⟨⟨_, rfl, by decide, rfl⟩, _, rfl, by decide, rfl⟩

theorem witness_SequenceMovesByOne : preparing.resetLine = false ∧ ∃ t, step preparing = .next t ∧ t.seq = 1 :=
  ⟨rfl, _, rfl, rfl⟩

theorem witness_NoImageOrChunkFault :
    Inv (idleWith (startBytes 63)) ∧ step (idleWith (startBytes 63)) = .fault .configRange := ⟨inv_idleWith _, rfl⟩

theorem witness_EngineFaultsOnlyOnAnIllegalChunk :
    Inv (idleWith (startBytes 63)) ∧ (idleWith (startBytes 63)).codec = .cbor ∧ (idleWith (startBytes 63)).size < 2 ^ 64 ∧
    (idleWith (startBytes 63)).calls = [] ∧ callsWait (sending []) ∧ step (idleWith (startBytes 63)) = .fault .configRange :=
  ⟨inv_idleWith _, rfl, by decide, rfl, .inl (by decide), rfl⟩

theorem inv_unanswered : Inv unanswered := by
  constructor
  · constructor <;> simp [unanswered, awaiting, State.reset, ramp_wf]
    rfl
  · simp [portDiscipline, unanswered, awaiting, State.reset]

/-- A request's length does not depend on SEQ. -/
theorem unanswered_length (q : BitVec 8) (seg : Segment) :
    (segmentMessage { unanswered with seq := q } seg).length = (segmentMessage unanswered seg).length := by
  simp [segmentMessage, requestMessage, requestPayload, uploadFields, unanswered, awaiting, State.reset, encPayload, cborEnc, cborPair,
    cborValue]

theorem unanswered_lengths (q : BitVec 8) :
    (segmentMessage { unanswered with seq := q } unanswered.cur).length ≤ 65533 ∧
    ∀ n, nextSegment unanswered.size unanswered.effChunk unanswered.cur = some n →
      (segmentMessage { unanswered with seq := q } n).length ≤ 65533 := by
  simp only [unanswered_length]
  decide +kernel

theorem witness_EndlessRetransmitIsARun :
    Inv unanswered ∧ unanswered.resetLine = false ∧ unanswered.engine = .awaitAck ∧ unanswered.outstanding = some .read ∧
    unanswered.maxRetries = none ∧ neverAnswered unanswered ∧
    ∀ q : BitVec 8, (segmentMessage { unanswered with seq := q } unanswered.cur).length ≤ 65533 ∧
      ∀ n, nextSegment unanswered.size unanswered.effChunk unanswered.cur = some n →
        (segmentMessage { unanswered with seq := q } n).length ≤ 65533 :=
  ⟨inv_unanswered, rfl, rfl, rfl, rfl, ⟨rfl, rfl⟩, unanswered_lengths⟩

end Sys2Proof.Tests
end

section
/-! PROOFS. What a step does, by what is pending (the forward reading of `step_cases`), and the image that START loads. -/

namespace Sys2Proof.Machine

/-! The decoder's four layers, where they answer an instruction. -/

/-- A decoded line is the first line of the bytes, classified. -/
theorem decode_line_ok_iff {bs rest : Bytes} {i : Instr} :
    decode .line bs = .ok (i, rest) ↔ ∃ line, splitLine bs = some (line, rest) ∧ decodeLine line = i := by
  cases hs : splitLine bs with
  | none => simp [decode, hs]
  | some p =>
    obtain ⟨line, rest'⟩ := p
    simp only [decode, hs, Except.ok.injEq, Prod.mk.injEq, Option.some.injEq]
    constructor
    · rintro ⟨hi, hr⟩
      exact ⟨line, ⟨rfl, hr⟩, hi⟩
    · rintro ⟨_, ⟨rfl, hr⟩, hi⟩
      exact ⟨hi, hr⟩

/-- A message takes all its bytes (30_encoding.md R83). -/
theorem decode_message_ok_iff {m rest : Bytes} {i : Instr} :
    decode .message m = .ok (i, rest) ↔ decodeMessage m = i ∧ rest = [] := by
  simp [decode, eq_comm]

/-- No bytes are no request-builder call. -/
theorem decodeRequest_ne_nil {bs rest : Bytes} {i : Instr} (h : decodeRequest bs = .ok (i, rest)) : bs ≠ [] := by
  rintro rfl
  cases h

/-- No bytes are no event. -/
theorem decodeEvent_ne_nil {bs rest : Bytes} {i : Instr} (h : decodeEvent bs = .ok (i, rest)) : bs ≠ [] := by
  rintro rfl
  cases h

/-! What is pending. -/

theorem inputBytes_eq (s : State) : inputBytes s = if s.port = [] then s.standing else s.port := by
  cases hp : s.port <;> simp [inputBytes, hp]

/-- The calls wait exactly where none may run. -/
theorem callAdmitted_eq_true_iff_not_callsWait (s : State) : callAdmitted s = true ↔ ¬ callsWait s := by
  rw [callAdmitted_iff, callsWait]
  tauto

theorem pendingInput_of_call {s : State} (hw : ¬ callsWait s) (hc : s.calls ≠ []) : pendingInput s = .call s.calls := by
  have ha := (callAdmitted_eq_true_iff_not_callsWait s).2 hw
  simp [pendingInput, ha, hc]

/-- Where no call may run, the input is taken from the store of events. -/
theorem pendingInput_of_event {s : State} (hc : s.calls = [] ∨ callsWait s) (hb : inputBytes s ≠ []) :
    pendingInput s = .event (inputBytes s) := by
  have ha : ¬ (callAdmitted s = true ∧ s.calls ≠ []) := by
    rw [callAdmitted_eq_true_iff_not_callsWait]
    tauto
  obtain ⟨b, bs, hbs⟩ := List.exists_cons_of_ne_nil hb
  simp only [pendingInput, Bool.and_eq_true, Bool.not_eq_true', List.isEmpty_eq_false_iff, ha, if_false, hbs]

/-- The engine with no internal transition leaves the turn to the input. -/
theorem pendingEngine_of_resting {s : State} (hp : s.engine ≠ .prepareFirst) (hr : s.engine ≠ .retransmit)
    (ha : s.engine ≠ .advance) : pendingEngine s = pendingInput s := by
  cases he : s.engine <;> simp_all [pendingEngine]

/-! The step, by what is pending. -/

theorem step_of_running {s : State} (h : s.resetLine = false) : step s = stepPending (pending s) s := by
  simp [step, stepOnce, h]

theorem step_of_emits {s : State} {e : OutEvent} {es : List OutEvent} (h : s.resetLine = false) (he : s.emits = e :: es) :
    step s = exec e.instr { s with emits := es } := by
  simp [step_of_running h, pending, he, stepPending]

theorem step_of_message {s : State} {m : Bytes} (h : s.resetLine = false) (he : s.emits = []) (hs : s.scan = .message m) :
    step s = exec (decodeMessage m) s := by
  simp [step_of_running h, pending, he, hs, stepPending]

theorem step_of_line {s : State} {line rest : Bytes} (h : s.resetLine = false) (he : s.emits = []) (hs : s.scan = .lines)
    (hl : splitLine s.acc = some (line, rest)) : step s = exec (decodeLine line) { s with acc := rest } := by
  simp [step_of_running h, pending, he, hs, hl, stepPending]

/-- With nothing to send and no scan under way, a resting engine takes the environment's input. -/
theorem step_of_resting {s : State} (h : s.resetLine = false) (he : s.emits = []) (hs : s.scan = .off)
    (hp : s.engine ≠ .prepareFirst) (hr : s.engine ≠ .retransmit) (ha : s.engine ≠ .advance) :
    step s = stepPending (pendingInput s) s := by
  simp [step_of_running h, pending, he, hs, pendingEngine_of_resting hp hr ha]

theorem stepCall_of_decode {bytes rest : Bytes} {i : Instr} {s : State} (hd : decodeRequest bytes = .ok (i, rest)) :
    stepCall bytes s = exec i { s with calls := rest } := by
  simp [stepCall, hd]

theorem stepEvent_of_decode {bytes rest : Bytes} {i : Instr} {s : State} (hd : decodeEvent bytes = .ok (i, rest))
    (ho : outEvent? i = none) : stepEvent bytes s = exec i { s with port := rest } := by
  simp [stepEvent, hd, ho]

/-! START and the image. -/

/-- Everything a START that answers a next state has asked for and written (44_upload_engine.md R210). -/
theorem execStart_next {size : Nat} {img : Bytes} {chunk tFirst tNext : Nat} {crcInit : Word16} {retries : Option Nat}
    {strict : Bool} {s t : State} (h : execStart size img chunk tFirst tNext crcInit retries strict s = .next t) :
    startAdmitted s.engine = true ∧ img.length = size ∧ 64 ≤ chunk ∧ chunk ≤ 2048 ∧
    t = { resetSession s with
      size := size, img := Memory.ofBytes img, chunkCfg := chunk, effChunk := effChunkOf chunk, tFirst := tFirst,
      tNext := tNext, crcInit := crcInit, maxRetries := retries, strictOff := strict, engine := .prepareFirst } := by
  unfold execStart at h
  split at h
  · cases h
  · next ha =>
    split at h
    · cases h
    · next hl =>
      split at h
      · cases h
      · next hc =>
        have hc : 64 ≤ chunk ∧ chunk ≤ 2048 := by simpa using hc
        exact ⟨by simpa using ha, not_not.1 hl, hc.1, hc.2, (Host.Outcome.next.inj h).symm⟩

/-- A slice of a loaded image is the slice of its bytes (20_memory.md R50). -/
theorem Memory.readRange_ofBytes {bs : Bytes} {a n : Nat} (h : a + n ≤ bs.length) :
    Memory.readRange (Memory.ofBytes bs) a n = (bs.drop a).take n := by
  apply List.ext_getElem
  · simp only [Memory.readRange_length, List.length_take, List.length_drop]
    omega
  · intro k hk _
    have hk : k < n := by simpa using hk
    have hlt : a + k < bs.length := by omega
    simp [Memory.readRange, Memory.read_ofBytes, hlt]

end Sys2Proof.Machine

namespace Sys2Proof.Proofs

open Sys2Proof.Machine

/-- Settles O38: START loads IMG with `S = len(IMG)`, and a slice of a loaded image is the slice of its bytes. -/
theorem imageReadsBackAsLoaded : Obligations.ImageReadsBackAsLoaded := by
  intro size img chunk tFirst tNext crcInit retries strict s t h addr n
  obtain ⟨_, hlen, _, _, rfl⟩ := execStart_next h
  constructor
  · intro hin
    exact memRead_ok_iff.2 ⟨hin, (Memory.readRange_ofBytes (hlen ▸ hin)).symm⟩
  · intro hout
    exact memRead_error_iff.2 ⟨hout, rfl⟩

/-- Settles O39, one clause per source of an instruction, in the order of `pending`. -/
theorem stepRunsTheDecodedInstruction : Obligations.StepRunsTheDecodedInstruction := by
  intro s hreset
  refine ⟨fun e es he => step_of_emits hreset he, fun he => ⟨?message, ?line, fun hscan hp hr ha => ⟨?call, ?event⟩⟩⟩
  case message =>
    intro m i rest hscan hd
    obtain ⟨rfl, -⟩ := decode_message_ok_iff.1 hd
    exact step_of_message hreset he hscan
  case line =>
    intro i rest hscan hd
    obtain ⟨line, hl, rfl⟩ := decode_line_ok_iff.1 hd
    exact step_of_line hreset he hscan hl
  case call =>
    intro hw i rest hd
    rw [step_of_resting hreset he hscan hp hr ha, pendingInput_of_call hw (decodeRequest_ne_nil hd)]
    exact stepCall_of_decode hd
  case event =>
    intro hc i rest ho hd
    rw [← inputBytes_eq] at hd
    rw [step_of_resting hreset he hscan hp hr ha, pendingInput_of_event hc (decodeEvent_ne_nil hd)]
    exact stepEvent_of_decode hd ho

end Sys2Proof.Proofs
end

section
/-! PROOFS. The layer of what each decoder answers, and what an instruction can fault with (60_exceptions.md R257). -/

namespace Sys2Proof.Machine

/-! The decoders keep to their layer. -/

theorem decodeEvent_layer {bytes rest : Bytes} {i : Instr} (h : decodeEvent bytes = .ok (i, rest)) : i.layer = .event := by
  simp only [decodeEvent, bind, Except.bind] at h
  repeat' split at h
  all_goals cases h <;> rfl

theorem decodeRequest_layer {bytes rest : Bytes} {i : Instr} (h : decodeRequest bytes = .ok (i, rest)) :
    i.layer = .request := by
  simp only [decodeRequest, bind, Except.bind] at h
  repeat' split at h
  all_goals cases h <;> rfl

theorem decodeLine_layer (line : Bytes) : (decodeLine line).layer = .line := by
  unfold decodeLine
  repeat' split
  all_goals rfl

theorem decodeMessage_layer (msg : Bytes) : (decodeMessage msg).layer = .message := by
  unfold decodeMessage
  repeat' split
  all_goals rfl

/-! Faults. -/

/-- The Continuation lines never meet an empty chunk (41_frame_encoder.md R134). -/
theorem contLines_ok (fuel : Nat) (rest : Bytes) : ∃ lines, contLines fuel rest = .ok lines := by
  induction fuel generalizing rest with
  | zero => exact ⟨[], rfl⟩
  | succ fuel ih =>
    by_cases hr : rest = []
    · exact ⟨[], by simp [contLines, hr]⟩
    · obtain ⟨lines, hlines⟩ := ih (rest.drop 93)
      have hchunk : rest.take 93 ≠ [] := by simpa using hr
      exact ⟨_, by simp [contLines, contLine, hr, hchunk, hlines]; rfl⟩

/-- The one fault of the encoder is a message that is too long (41_frame_encoder.md R130). -/
theorem encodeMessage_error {init : Word16} {m : Bytes} {f : Fault} (h : encodeMessage init m = .error f) :
    f = .encodeRange := by
  obtain ⟨conts, hconts⟩ := contLines_ok ((checksum init m).drop 91).length ((checksum init m).drop 91)
  by_cases hm : m.length > 65533
  · simpa [encodeMessage, hm, eq_comm] using h
  · rw [encodeMessage_ok_iff.2 ⟨by omega, conts, hconts, rfl⟩] at h
    cases h

/-- A segment within the image faults only where its request is too long (44_upload_engine.md R213). -/
theorem buildSegment_error {s : State} {seg : Segment} {f : Fault} (hin : seg.off + seg.len ≤ s.size)
    (h : buildSegment s seg = .error f) : f = .encodeRange := by
  rw [buildSegment, memRead_ok_iff.2 ⟨hin, rfl⟩] at h
  simp only at h
  split at h
  · next g hreq => rw [← Except.error.inj h]; exact buildRequest_error hreq
  · split at h
    · next g henc => rw [← Except.error.inj h]; exact encodeMessage_error henc
    · cases h

/-- The segment that NextSegment gives lies in the image (44_upload_engine.md R214). -/
theorem nextSegment_inImage {size effChunk : Nat} {cur n : Segment} (h : nextSegment size effChunk cur = some n) :
    n.off + n.len ≤ size := by
  obtain ⟨hlt, rfl⟩ := nextSegment_eq_some_iff.1 h
  show cur.off + cur.len + min _ _ ≤ size
  omega

theorem execStart_fault {size : Nat} {img : Bytes} {chunk tFirst tNext : Nat} {crcInit : Word16} {retries : Option Nat}
    {strict : Bool} {s : State} {f : Fault}
    (h : execStart size img chunk tFirst tNext crcInit retries strict s = .fault f) : f = .configRange := by
  unfold execStart at h
  repeat' split at h
  all_goals cases h <;> rfl

theorem execWrOk_fault {s : State} {f : Fault} (h : execWrOk s = .fault f) : f = .encodeRange := by
  simp only [execWrOk] at h
  split at h
  · cases h
  · split at h
    · cases h
    · next n hn =>
      split at h
      · next g hb =>
        rw [← Host.Outcome.fault.inj h]
        exact buildSegment_error (nextSegment_inImage hn) hb
      · cases h

theorem callBuilder_fault {group : Word16} {id : Byte} {fields : List (Config.Key × Config.Value)} {s : State} {f : Fault}
    (h : callBuilder group id fields s = .fault f) : f = .encodeRange := by
  rcases callBuilder_cases group id fields s with ⟨_, -, hc⟩ | hc <;> rw [hc] at h
  · cases h
  · exact (Host.Outcome.fault.inj h).symm

/-- An instruction faults only with ConfigRange (START) and EncodeRange (WR_OK and the request builders). -/
theorem exec_fault {i : Instr} {s : State} {f : Fault} (h : exec i s = .fault f) : f = .configRange ∨ f = .encodeRange := by
  cases i with
  | start => exact .inl (execStart_fault h)
  | wrOk => exact .inr (execWrOk_fault h)
  | reqEchoCtrl | reqReset | reqUploadSeg0 | reqUploadSegN => exact .inr (callBuilder_fault h)
  | lineStart | lineCont =>
    simp only [exec, execLineStart, execLineCont] at h
    repeat' split at h
    all_goals cases h
  | lineNoise | lineOther => cases h
  | wrErr | rdData | rdTimeout | rdErr =>
    simp only [exec, execWrErr, execRdData, execRdTimeout, execRdErr] at h
    split at h <;> cases h
  | write | read | progress | result | msgReadResponse | msgWriteResponse | msgNonresponse => cases h

theorem prepareFirst_fault {s : State} {f : Fault} (h : prepareFirst s = .fault f) : f = .encodeRange := by
  simp only [prepareFirst] at h
  split at h
  · next g hb =>
    rw [← Host.Outcome.fault.inj h]
    exact buildSegment_error (show 0 + min 32 s.size ≤ s.size by omega) hb
  · cases h

theorem retransmit_fault {s : State} {f : Fault} (hin : s.cur.off + s.cur.len ≤ s.size) (h : retransmit s = .fault f) :
    f = .encodeRange := by
  simp only [retransmit] at h
  split at h
  · cases h
  · split at h
    · next g hb =>
      rw [← Host.Outcome.fault.inj h]
      exact buildSegment_error hin hb
    · cases h

/-- What is pending faults only with ConfigRange and EncodeRange where CUR lies in the image. -/
theorem stepPending_fault {p : Pending} {s : State} {f : Fault} (hin : s.cur.off + s.cur.len ≤ s.size)
    (h : stepPending p s = .fault f) : f = .configRange ∨ f = .encodeRange := by
  cases p with
  | emission | message | line => exact exec_fault h
  | prepareFirst => exact .inr (prepareFirst_fault h)
  | retransmit => exact .inr (retransmit_fault hin h)
  | advance =>
    simp only [stepPending, advance] at h
    split at h <;> cases h
  | call bytes =>
    simp only [stepPending, stepCall] at h
    split at h
    · cases h
    · exact exec_fault h
  | event bytes =>
    simp only [stepPending, stepEvent] at h
    split at h
    · cases h
    · split at h
      · cases h
      · exact exec_fault h
  | needMore | waiting => cases h

end Sys2Proof.Machine

namespace Sys2Proof.Proofs

open Sys2Proof.Machine

/-- Settles O54: an image read is of CUR, segment 0 or NextSegment, each within the image, and the encoder cuts no empty chunk. -/
theorem noImageOrChunkFault : Obligations.NoImageOrChunkFault := by
  intro s f hinv h
  cases hr : s.resetLine with
  | true =>
    simp only [step, stepOnce, hr, if_true] at h
    cases h
  | false =>
    rw [step_of_running hr] at h
    exact stepPending_fault hinv.session.curInImage h

end Sys2Proof.Proofs
end

section
/-! PROOFS. START at the input, and power-on reset. -/

namespace Sys2Proof.Machine

/-- When START is admitted (44_upload_engine.md R210). -/
theorem startAdmitted_iff (e : EngineState) : startAdmitted e = true ↔ e = .idle ∨ e = .done ∨ e = .failed := by
  cases e <;> simp [startAdmitted]

/-- The reset state meets the session and port invariant. -/
theorem inv_reset : Inv State.reset where
  session := by constructor <;> simp [State.reset, Memory.wf, Memory.wfFrom]
  port := ⟨rfl, rfl, rfl⟩

/-- A fresh start has nothing to send and nothing prepared. -/
theorem wireInv_of_idle {s : State} (he : s.engine = .idle) (hn : s.next = none) : WireInv s where
  current h := by rw [he] at h; cases h
  prepared n lines h := by rw [hn] at h; cases h

end Sys2Proof.Machine

namespace Sys2Proof.Proofs

open Sys2Proof.Machine

/-- Settles O22. -/
theorem startLoadsAndResets : Obligations.StartLoadsAndResets := by
  intro size img chunk tFirst tNext crcInit retries strict s he hlen hlo hhi
  have hadm : startAdmitted s.engine = true := (startAdmitted_iff _).2 he
  have hchunk : ¬ (chunk < 64 ∨ chunk > 2048) := by omega
  simp only [exec, execStart, hadm, hlen, hchunk, Bool.not_true, Bool.false_eq_true, ne_eq, not_true_eq_false, if_false]
  rfl

/-- Settles O23, in the order in which START looks: the engine's state, the image's length, the chunk size. -/
theorem startIsTurnedAway : Obligations.StartIsTurnedAway := by
  intro size img chunk tFirst tNext crcInit retries strict s start
  refine ⟨fun he hlen hchunk => ?chunk, fun he hlen => ?image, fun hi hd hf => ?transfer⟩
  case chunk =>
    have hadm : startAdmitted s.engine = true := (startAdmitted_iff _).2 he
    simp [start, exec, execStart, hadm, hlen, hchunk]
  case image =>
    have hadm : startAdmitted s.engine = true := (startAdmitted_iff _).2 he
    simp [start, exec, execStart, hadm, hlen]
  case transfer =>
    have hadm : ¬ startAdmitted s.engine = true := by rw [startAdmitted_iff]; tauto
    simp [start, exec, execStart, hadm]

/-- Settles O41. -/
theorem powerOnResetAtAnyTime : Obligations.PowerOnResetAtAnyTime := by
  intro s hr
  refine ⟨powerOnReset s, by simp [step, stepOnce, hr], ?_⟩
  simp [State.reset]

/-- Settles O42. -/
theorem resetValuesOfTheSpec : Obligations.ResetValuesOfTheSpec := by
  simp [Obligations.ResetValuesOfTheSpec, State.reset]

/-- Settles O44. -/
theorem resetMeetsTheInvariants : Obligations.ResetMeetsTheInvariants :=
  ⟨inv_reset, wireInv_of_idle rfl rfl, rfl, fun h => by cases h⟩

end Sys2Proof.Proofs
end

section
/-! PROOFS. Everything a running machine can do in one step, one constructor per outcome, each with the guards under which it
happens and the state it leaves. -/

namespace Sys2Proof.Machine

/-! What the transitions speak of. -/

/-- The transport operation awaited once an output event has left (44_upload_engine.md R222, R223). -/
def OutEvent.awaits : OutEvent → Option PortCall → Option PortCall
  | .write _, _ => some .write
  | .read _, _ => some .read
  | .progress _, before | .result .., before => before

/-- An output event leaves at the port; a WRITE or READ is then outstanding. -/
theorem exec_outEvent (e : OutEvent) (s : State) :
    exec e.instr s = .next { s with out := s.out ++ [e], outstanding := e.awaits s.outstanding } := by
  cases e <;> rfl

/-- DecPoll takes the first line of ACC and leaves `rest` (42_frame_decoder.md R153). -/
structure TakesLine (s : State) (rest : Bytes) : Prop where
  emits : s.emits = []
  scan : s.scan = .lines
  line : ∃ line, splitLine s.acc = some (line, rest)

/-- A checked message is held for the response test (42_frame_decoder.md R163). -/
structure HoldsMessage (s : State) : Prop where
  emits : s.emits = []
  scan : ∃ m, s.scan = .message m

/-- A declared length that DecPoll collects for: a legal one of a Start line, or the one already collected for
(42_frame_decoder.md R157, R158). -/
def declared (s : State) (decl : Word16) : Prop := 2 ≤ decl.toNat ∨ ∃ rbuf, s.rsm = .collect decl rbuf

/-- What a step without power-on reset can do. -/
inductive Transition (s : State) : State → Prop
  | emitted {e : OutEvent} {es : List OutEvent} (he : s.emits = e :: es) :
      Transition s { s with emits := es, out := s.out ++ [e], outstanding := e.awaits s.outstanding }
  | lineIgnored {rest : Bytes} (hl : TakesLine s rest) : Transition s { s with acc := rest }
  | lineCollected {rest rbuf : Bytes} {decl : Word16} (hl : TakesLine s rest) (hd : declared s decl)
      (hlt : rbuf.length < decl.toNat) : Transition s { s with acc := rest, rsm := .collect decl rbuf }
  | messageChecked {rest m : Bytes} (hl : TakesLine s rest) :
      Transition s { s with acc := rest, rsm := .idle, scan := .message m }
  | lineFailed {rest : Bytes} {rsm : Rsm} {sub : IntegritySub} (hl : TakesLine s rest)
      (hd : ∀ decl rbuf, rsm = .collect decl rbuf → declared s decl) :
      Transition s (integrityFailure sub { s with acc := rest, rsm := rsm })
  | moreNeeded (he : s.emits = []) (hs : s.scan = .lines) : Transition s (needMore s)
  | messageDiscarded (hm : HoldsMessage s) : Transition s { s with scan := .lines }
  | responseFailed {c : FailCause} {i rc ack : Int} (hm : HoldsMessage s) (hc : c ≠ .none) :
      Transition s (raiseFailure c i { s with scan := .off, rc := rc, ack := ack })
  | transferCompleted {rc ack : Int} (hm : HoldsMessage s) :
      Transition s (enterDone (emit (.progress ack) { s with scan := .off, rc := rc, ack := ack }))
  | offsetMismatched {rc ack : Int} (hm : HoldsMessage s) :
      Transition s { s with scan := .off, rc := rc, ack := ack, engine := .retransmit }
  | segmentAcknowledged {rc ack : Int} (hm : HoldsMessage s) (hlt : ack < s.size) (hack : ack = s.cur.off + s.cur.len) :
      Transition s (emit (.progress ack) { s with scan := .off, rc := rc, ack := ack, engine := .advance })
  | firstPrepared {lines : Bytes} (hq : quiet s) (he : s.engine = .prepareFirst)
      (hb : buildSegment s (firstSegment s.size) = .ok lines) :
      Transition s (enterSend (bumpSeq { s with
        off := 0, cur := firstSegment s.size, tmo := .first, retry := 0, next := none, nextLines := none,
        curLines := lines }))
  | retriesRanOut (hq : quiet s) (he : s.engine = .retransmit) :
      Transition s (raiseFailure .retryExhausted s.cur.off s)
  | segmentRebuilt {lines : Bytes} (hq : quiet s) (he : s.engine = .retransmit) (hr : retriesExhausted s = false)
      (hb : buildSegment s s.cur = .ok lines) :
      Transition s (enterSend (bumpSeq { s with
        retry := s.retry + 1, tmo := if s.cur.off = 0 then .first else .next, curLines := lines }))
  | advanced {n : Segment} {lines : Bytes} {ack : Nat} (hq : quiet s) (he : s.engine = .advance) (hn : s.next = some n)
      (hl : s.nextLines = some lines) (hack : s.ack = ack) :
      Transition s ((if ack = s.size then enterDone else enterSend) { s with
        cur := n, curLines := lines, off := ack, tmo := .next, retry := 0, next := none, nextLines := none })
  | requestBuilt {rest m : Bytes} (hq : quiet s) (hc : callAdmitted s = true) :
      Transition s { s with calls := rest, seq := s.seq + 1, built := some m }
  | started {size : Nat} {img : Bytes} {chunk tFirst tNext : Nat} {crcInit : Word16} {retries : Option Nat} {strict : Bool}
      {rest : Bytes} (hq : quiet s) (ha : startAdmitted s.engine = true)
      (hd : decodeEvent (inputBytes s) = .ok (.start size img chunk tFirst tNext crcInit retries strict, rest))
      (hmin : 64 ≤ chunk) (hmax : chunk ≤ 2048) :
      Transition s { resetSession s with
        size := size, img := Memory.ofBytes img, chunkCfg := chunk, effChunk := effChunkOf chunk, tFirst := tFirst,
        tNext := tNext, crcInit := crcInit, maxRetries := retries, strictOff := strict, engine := .prepareFirst,
        port := rest }
  | lastWritten {rest : Bytes} (hq : quiet s) (ho : s.outstanding = some .write)
      (hn : nextSegment s.size s.effChunk s.cur = none) :
      Transition s (enterAwaitAck { s with
        port := rest, outstanding := none, wire := s.wire ++ s.curLines, next := none, nextLines := none })
  | nextPrepared {rest lines : Bytes} {n : Segment} (hq : quiet s) (ho : s.outstanding = some .write)
      (hn : nextSegment s.size s.effChunk s.cur = some n) (hb : buildSegment s n = .ok lines) :
      Transition s (enterAwaitAck (bumpSeq { s with
        port := rest, outstanding := none, wire := s.wire ++ s.curLines, next := some n, nextLines := some lines }))
  | writeFailed {rest sent : Bytes} (hq : quiet s) (ho : s.outstanding = some .write) :
      Transition s (raiseFailure .transportWrite s.cur.off
        { s with port := rest, wire := s.wire ++ sent, draws := s.draws + 1 })
  | dataRead {rest bs : Bytes} (hq : quiet s) (ho : s.outstanding = some .read) :
      Transition s { decFeed bs s with port := rest, outstanding := none, scan := .lines }
  | readTimedOut {rest : Bytes} (hq : quiet s) (ho : s.outstanding = some .read) :
      Transition s { s with port := rest, outstanding := none, engine := .retransmit }
  | readFailed {rest : Bytes} (hq : quiet s) (ho : s.outstanding = some .read) :
      Transition s (raiseFailure .transportRead s.cur.off { s with port := rest })

/-! Received lines. -/

theorem rdBe16_lt (a : Bytes) (i : Nat) : rdBe16 a i < 2 ^ 16 := by
  have hhi := (a.getD i 0).isLt
  have hlo := (a.getD (i + 1) 0).isLt
  unfold rdBe16
  omega

theorem completionCheck_transition {s : State} {rest : Bytes} {decl : Word16} (rbuf : Bytes) (hl : TakesLine s rest)
    (hd : declared s decl) : Transition s (completionCheck decl rbuf { s with acc := rest }) := by
  rcases completionCheck_cases decl rbuf { s with acc := rest } with h | ⟨hlt, h⟩ | ⟨m, h⟩ | h <;> rw [h]
  · exact .lineFailed hl (by rintro _ _ ⟨⟩; exact hd)
  · exact .lineCollected hl hd hlt
  · exact .messageChecked hl
  · exact .lineFailed hl (by rintro _ _ ⟨⟩)

/-- Malformed text fails and leaves RSM as it was (42_frame_decoder.md R157, R158). -/
theorem lineFailed_rsm_kept {s : State} {rest : Bytes} (sub : IntegritySub) (hl : TakesLine s rest) :
    Transition s (integrityFailure sub { s with acc := rest }) :=
  .lineFailed (rsm := s.rsm) hl fun _ rbuf h => .inr ⟨rbuf, h⟩

theorem exec_line_transition {i : Instr} {s t : State} {rest : Bytes} (hi : i.layer = .line) (hl : TakesLine s rest)
    (h : exec i { s with acc := rest } = .next t) : Transition s t := by
  cases i with
  | lineStart text =>
    simp only [exec, execLineStart] at h
    split at h
    · cases h; exact lineFailed_rsm_kept _ hl
    · next d _ =>
      split at h
      · cases h; exact lineFailed_rsm_kept _ hl
      · split at h
        · cases h; exact lineFailed_rsm_kept _ hl
        · next hdecl =>
          have hlt := rdBe16_lt d 0
          have htoNat : 2 ≤ (BitVec.ofNat 16 (rdBe16 d 0)).toNat := by
            rw [BitVec.toNat_ofNat, Nat.mod_eq_of_lt hlt]; omega
          cases h; exact completionCheck_transition _ hl (.inl htoNat)
  | lineCont text =>
    simp only [exec, execLineCont] at h
    split at h
    · cases h; exact .lineIgnored hl
    · next decl rbuf hr =>
      split at h
      · cases h; exact lineFailed_rsm_kept _ hl
      · cases h; exact completionCheck_transition _ hl (.inr ⟨rbuf, hr⟩)
  | lineNoise | lineOther => cases h; exact .lineIgnored hl
  | _ => cases hi

/-! Received messages. -/

theorem judge_transition {s : State} (rc ack : Int) (hm : HoldsMessage s) :
    Transition s (judge { s with scan := .off, rc := rc, ack := ack }) := by
  rcases judge_cases { s with scan := .off, rc := rc, ack := ack } with
    ⟨-, h⟩ | ⟨-, -, h⟩ | ⟨-, -, h⟩ | ⟨-, -, -, h⟩ | ⟨-, hlt, hack, h⟩ <;> rw [h]
  · exact .responseFailed hm (by decide)
  · exact .transferCompleted hm
  · exact .responseFailed hm (by decide)
  · exact .offsetMismatched hm
  · exact .segmentAcknowledged hm hlt hack

theorem acceptResponse_transition {s : State} (msg : Bytes) (hm : HoldsMessage s) : Transition s (acceptResponse msg s) := by
  rcases acceptResponse_cases msg s with ⟨sub, h⟩ | ⟨rc, ack, h⟩ <;> rw [h]
  · exact .responseFailed (rc := s.rc) (ack := s.ack) hm (by decide)
  · exact judge_transition rc ack hm

theorem exec_message_transition {i : Instr} {s t : State} (hi : i.layer = .message) (hm : HoldsMessage s)
    (h : exec i s = .next t) : Transition s t := by
  cases i with
  | msgReadResponse | msgWriteResponse => cases h; exact acceptResponse_transition _ hm
  | msgNonresponse => cases h; exact .messageDiscarded hm
  | _ => cases hi

/-! The engine. -/

theorem prepareFirst_transition {s t : State} (hq : quiet s) (he : s.engine = .prepareFirst) (h : prepareFirst s = .next t) :
    Transition s t := by
  simp only [prepareFirst] at h
  split at h
  · cases h
  · next hb => cases h; exact .firstPrepared hq he hb

theorem retransmit_transition {s t : State} (hq : quiet s) (he : s.engine = .retransmit) (h : retransmit s = .next t) :
    Transition s t := by
  simp only [retransmit] at h
  split at h
  · cases h; exact .retriesRanOut hq he
  · next hr =>
    split at h
    · cases h
    · next hb => cases h; exact .segmentRebuilt hq he (by simpa using hr) hb

theorem advance_transition {s t : State} (hq : quiet s) (he : s.engine = .advance) (h : advance s = .next t) :
    Transition s t := by
  obtain ⟨n, lines, ack, hn, hl, hack, rfl⟩ := advance_next h
  exact .advanced hq he hn hl hack

/-! The environment's calls and events. -/

theorem exec_request_transition {i : Instr} {s t : State} {rest : Bytes} (hi : i.layer = .request) (hq : quiet s)
    (hc : callAdmitted s = true) (h : exec i { s with calls := rest } = .next t) : Transition s t := by
  have key : ∀ group id fields, callBuilder group id fields { s with calls := rest } = .next t → Transition s t := by
    intro group id fields h
    rcases callBuilder_cases group id fields { s with calls := rest } with ⟨m, -, hm⟩ | hm <;> rw [hm] at h <;> cases h
    exact .requestBuilt hq hc
  cases i with
  | reqEchoCtrl | reqReset | reqUploadSeg0 | reqUploadSegN => exact key _ _ _ h
  | _ => cases hi

/-- An answer that is not refused runs its meaning. -/
theorem next_of_ite_refused {p : Prop} [Decidable p] {r : Refusal} {o : Outcome} {t : State}
    (h : (if p then .refused r else o) = Host.Outcome.next t) : ¬ p ∧ o = .next t := by
  split at h
  · cases h
  · next hp => exact ⟨hp, h⟩

theorem execWrOk_transition {s t : State} {rest : Bytes} (hq : quiet s) (h : execWrOk { s with port := rest } = .next t) :
    Transition s t := by
  simp only [execWrOk] at h
  obtain ⟨ho, h⟩ := next_of_ite_refused h
  have ho : s.outstanding = some .write := not_not.1 ho
  split at h
  · next hn => cases h; exact .lastWritten hq ho hn
  · next n hn =>
    split at h
    · cases h
    · next hb => cases h; exact .nextPrepared hq ho hn hb

theorem exec_event_transition {i : Instr} {s t : State} {rest : Bytes} (hq : quiet s)
    (hd : decodeEvent (inputBytes s) = .ok (i, rest)) (hin : outEvent? i = none)
    (h : exec i { s with port := rest } = .next t) : Transition s t := by
  have hi := decodeEvent_layer hd
  cases i with
  | start =>
    obtain ⟨ha, -, hmin, hmax, rfl⟩ := execStart_next h
    exact .started hq ha hd hmin hmax
  | wrOk => exact execWrOk_transition hq h
  | wrErr =>
    obtain ⟨ho, h⟩ := next_of_ite_refused h
    cases h
    exact .writeFailed hq (not_not.1 ho)
  | rdData =>
    obtain ⟨ho, h⟩ := next_of_ite_refused h
    cases h
    exact .dataRead hq (not_not.1 ho)
  | rdTimeout =>
    obtain ⟨ho, h⟩ := next_of_ite_refused h
    cases h
    exact .readTimedOut hq (not_not.1 ho)
  | rdErr =>
    obtain ⟨ho, h⟩ := next_of_ite_refused h
    cases h
    exact .readFailed hq (not_not.1 ho)
  | write | read | progress | result => cases hin
  | _ => cases hi

/-! The step. -/

/-- A step is power-on reset where the environment asserts it, else a transition. -/
theorem step_next {s t : State} (h : step s = .next t) :
    (s.resetLine = true ∧ t = powerOnReset s) ∨ (s.resetLine = false ∧ Transition s t) := by
  rcases step_cases h with hreset | ⟨hr, e, es, he, h⟩ | ⟨hr, he, m, hs, h⟩ | ⟨hr, he, hs, line, rest, hl, h⟩ |
    ⟨hr, he, hs, -, rfl⟩ | ⟨hr, he, hs, h⟩
  · exact .inl hreset
  all_goals refine .inr ⟨hr, ?_⟩
  · rw [exec_outEvent] at h
    cases h
    exact .emitted he
  · exact exec_message_transition (decodeMessage_layer m) ⟨he, m, hs⟩ h
  · exact exec_line_transition (decodeLine_layer line) ⟨he, hs, line, hl⟩ h
  · exact .moreNeeded he hs
  · have hq : quiet s := ⟨hr, he, hs⟩
    rcases h with ⟨heng, h⟩ | ⟨heng, h⟩ | ⟨heng, h⟩ | ⟨hc, -, h⟩ | ⟨-, -, -, h⟩
    · exact prepareFirst_transition hq heng h
    · exact retransmit_transition hq heng h
    · exact advance_transition hq heng h
    · obtain ⟨i, rest, hd, h⟩ := stepCall_next h
      exact exec_request_transition (decodeRequest_layer hd) hq hc h
    · obtain ⟨i, rest, hd, ho, h⟩ := stepEvent_next h
      exact exec_event_transition hq hd ho h

theorem step_transition {s t : State} (hr : s.resetLine = false) (h : step s = .next t) : Transition s t := by
  rcases step_next h with ⟨hr', -⟩ | ⟨-, htr⟩
  · rw [hr] at hr'; cases hr'
  · exact htr

end Sys2Proof.Machine
end

section
/-! PROOFS. What the transitions leave unchanged: the configuration, SEQ, and the lines of CUR and NEXT. -/

namespace Sys2Proof.Machine

/-! Configuration, codec and SEQ. -/

theorem Transition.codec_eq {s t : State} (h : Transition s t) : t.codec = s.codec := by
  cases h
  case advanced => split <;> rfl
  all_goals rfl

/-- Only START writes the configuration (10_state.md R28). -/
theorem Transition.configOf_eq_or_started {s t : State} (h : Transition s t) :
    configOf t = configOf s ∨ (startAdmitted s.engine = true ∧ t.engine = .prepareFirst ∧ t.next = none ∧
      ∃ size img chunk tFirst tNext crcInit retries strict rest,
        decodeEvent (inputBytes s) = .ok (.start size img chunk tFirst tNext crcInit retries strict, rest) ∧
        configOf t
          = (size, Memory.ofBytes img, chunk, effChunkOf chunk, tFirst, tNext, crcInit, retries, strict)) := by
  cases h
  case started size img chunk tFirst tNext crcInit retries strict rest _ ha hd _ _ =>
    exact .inr ⟨ha, rfl, rfl, size, img, chunk, tFirst, tNext, crcInit, retries, strict, rest, hd, rfl⟩
  case advanced => split <;> exact .inl rfl
  all_goals exact .inl rfl

/-- SEQ moves where a header is built, and START sets it to 0 (43_message_codec.md R189). -/
theorem Transition.seq_cases {s t : State} (h : Transition s t) :
    t.seq = s.seq ∨ t.seq = s.seq + 1 ∨ (t.engine = .prepareFirst ∧ t.seq = 0) := by
  cases h
  case firstPrepared | segmentRebuilt | requestBuilt | nextPrepared => exact .inr (.inl rfl)
  case started => exact .inr (.inr ⟨rfl, rfl⟩)
  case advanced => split <;> exact .inl rfl
  all_goals exact .inl rfl

/-! The lines. -/

/-- What a segment's build depends on. -/
theorem buildSegment_congr {s t : State} (hconf : configOf t = configOf s) (hcodec : t.codec = s.codec)
    (hseq : t.seq = s.seq) (seg : Segment) : buildSegment t seg = buildSegment s seg := by
  simp only [configOf, Prod.mk.injEq] at hconf
  obtain ⟨hsize, himg, -, -, -, -, hcrc, -⟩ := hconf
  simp only [buildSegment, memRead, hsize, himg, hcrc, hcodec, hseq]

/-- Some value of SEQ builds the wire bytes of a segment. -/
def buildsWithSomeSeq (s : State) (seg : Segment) (lines : Bytes) : Prop :=
  ∃ q, buildSegment { s with seq := q } seg = .ok lines

theorem buildsWithSomeSeq_of_build {s : State} {seg : Segment} {lines : Bytes} (h : buildSegment s seg = .ok lines) :
    buildsWithSomeSeq s seg lines := ⟨s.seq, h⟩

theorem buildsWithSomeSeq_congr {s t : State} {seg : Segment} {lines : Bytes} (hconf : configOf t = configOf s)
    (hcodec : t.codec = s.codec) (h : buildsWithSomeSeq s seg lines) : buildsWithSomeSeq t seg lines := by
  obtain ⟨q, hq⟩ := h
  exact ⟨q, (buildSegment_congr (s := { s with seq := q }) (t := { t with seq := q }) hconf hcodec rfl seg).trans hq⟩

/-- The lines that a step leaves to be sent or to be adopted stood before, or are a build of the segment they stand for. -/
structure LinesFollow (s t : State) : Prop where
  current : t.engine = .sendAndPrepareNext →
    (s.engine = .sendAndPrepareNext ∧ t.cur = s.cur ∧ t.curLines = s.curLines) ∨
    (s.next = some t.cur ∧ s.nextLines = some t.curLines) ∨ buildSegment s t.cur = .ok t.curLines
  prepared : ∀ n lines, t.next = some n → t.nextLines = some lines →
    (s.next = some n ∧ s.nextLines = some lines) ∨ buildSegment s n = .ok lines

/-- Where neither the segments nor their lines move and SendAndPrepareNext is not entered. -/
theorem linesFollow_of_kept {s t : State} (he : t.engine = s.engine ∨ t.engine ≠ .sendAndPrepareNext) (hc : t.cur = s.cur)
    (hcl : t.curLines = s.curLines) (hn : t.next = s.next) (hnl : t.nextLines = s.nextLines) : LinesFollow s t where
  current ht := .inl ⟨he.elim (· ▸ ht) (absurd ht), hc, hcl⟩
  prepared _ _ hn' hl' := .inl ⟨hn ▸ hn', hnl ▸ hl'⟩

/-- Where SendAndPrepareNext is left and nothing is prepared. -/
theorem linesFollow_of_none {s t : State} (he : t.engine ≠ .sendAndPrepareNext) (hn : t.next = none) : LinesFollow s t where
  current ht := absurd ht he
  prepared n _ hn' := by rw [hn] at hn'; cases hn'

theorem Transition.linesFollow {s t : State} (h : Transition s t) : LinesFollow s t := by
  cases h
  case firstPrepared hb => exact ⟨fun _ => .inr (.inr hb), by rintro _ _ ⟨⟩⟩
  case segmentRebuilt hb => exact ⟨fun _ => .inr (.inr hb), fun _ _ hn hl => .inl ⟨hn, hl⟩⟩
  case nextPrepared hb => exact ⟨by rintro ⟨⟩, by rintro _ _ ⟨⟩ ⟨⟩; exact .inr hb⟩
  case advanced hn hl _ =>
    split
    · exact linesFollow_of_none (by simp) rfl
    · exact ⟨fun _ => .inr (.inl ⟨hn, hl⟩), by rintro _ _ ⟨⟩⟩
  case started | lastWritten => exact linesFollow_of_none (by simp) rfl
  case emitted | lineIgnored | lineCollected | messageChecked | moreNeeded | messageDiscarded | requestBuilt | dataRead =>
    exact linesFollow_of_kept (.inl rfl) rfl rfl rfl rfl
  case lineFailed | responseFailed | transferCompleted | offsetMismatched | segmentAcknowledged | retriesRanOut |
      writeFailed | readTimedOut | readFailed =>
    exact linesFollow_of_kept (.inr (by simp [integrityFailure])) rfl rfl rfl rfl

theorem Transition.wireInv {s t : State} (htr : Transition s t) (h : WireInv s) : WireInv t := by
  have hfollow := htr.linesFollow
  rcases htr.configOf_eq_or_started with hconf | ⟨-, he, hn, -⟩
  · have keep : ∀ {seg lines}, buildsWithSomeSeq s seg lines → buildsWithSomeSeq t seg lines :=
      fun hb => buildsWithSomeSeq_congr hconf htr.codec_eq hb
    constructor
    · intro ht
      rcases hfollow.current ht with ⟨hs, hc, hcl⟩ | ⟨hn, hl⟩ | hb
      · rw [hc, hcl]; exact keep (h.current hs)
      · exact keep (h.prepared _ _ hn hl)
      · exact keep (buildsWithSomeSeq_of_build hb)
    · intro n lines hn hl
      rcases hfollow.prepared n lines hn hl with ⟨hn, hl⟩ | hb
      · exact keep (h.prepared n lines hn hl)
      · exact keep (buildsWithSomeSeq_of_build hb)
  · exact ⟨fun ht => by simp [he] at ht, fun n _ h => by simp [hn] at h⟩

end Sys2Proof.Machine

namespace Sys2Proof.Proofs

open Sys2Proof.Machine

/-- Settles O46: lines to be sent are built in the step, adopted from NEXT_LINES, or stand with the configuration they were built
from; START and power-on reset leave none. -/
theorem everyStepKeepsTheLines : Obligations.EveryStepKeepsTheLines := by
  intro s t hinv h
  rcases step_next h with ⟨-, rfl⟩ | ⟨-, htr⟩
  · exact wireInv_of_idle rfl rfl
  · exact htr.wireInv hinv

/-- Settles O50. -/
theorem onlyStartWritesTheConfiguration : Obligations.OnlyStartWritesTheConfiguration := by
  intro s t h
  rcases step_next h with ⟨hr, rfl⟩ | ⟨-, htr⟩
  · exact ⟨rfl, fun hr' => by simp [hr] at hr'⟩
  · refine ⟨htr.codec_eq, fun _ => htr.configOf_eq_or_started.imp_right ?_⟩
    rintro ⟨ha, -, -, hstart⟩
    exact ⟨(startAdmitted_iff _).1 ha, hstart⟩

/-- Settles O53. -/
theorem sequenceMovesByOne : Obligations.SequenceMovesByOne := fun _ _ hr h => (step_transition hr h).seq_cases

end Sys2Proof.Proofs
end

section
/-! PROOFS. The session and port invariant (10_state.md R45): what a transfer in flight keeps in each of its engine states, how it
ends, and that every transition keeps the invariant. -/

namespace Sys2Proof

open Sys2Proof.Machine

/-! A transfer in flight. -/

/-- The engine states between PrepareFirst and the transfer's end (10_state.md R30). -/
def inFlight (e : EngineState) : Prop :=
  e = .sendAndPrepareNext ∨ e = .awaitAck ∨ e = .retransmit ∨ e = .advance

/-- What `SessionInv` says of the image, the segments and the decoder once a transfer has a segment, whatever STATE is. -/
structure TransferInv (s : State) : Prop where
  imageCanonical : Memory.wf s.img = true
  offIsCur : s.off = s.cur.off
  curInImage : s.cur.off + s.cur.len ≤ s.size
  nextFollows : ∀ n, s.next = some n →
    n.off = s.cur.off + s.cur.len ∧ n.off + n.len ≤ s.size ∧ 1 ≤ n.len ∧ n.kind = .segN ∧ n.len ≤ s.effChunk
  kindByOffset : s.cur.kind = .seg0 ↔ s.cur.off = 0
  curNonempty : 0 < s.cur.len ∨ s.size = 0
  curBudget : s.cur.len ≤ s.effChunk
  chunkLegal : 64 ≤ s.chunkCfg ∧ s.chunkCfg ≤ 2048 ∧ s.effChunk = s.chunkCfg * 3 / 4 - 16
  timeoutClass : s.tmo = .first ↔ s.off = 0
  freshEmpty : s.fresh = true → s.acc = []
  collecting : ∀ decl rbuf, s.rsm = .collect decl rbuf → 2 ≤ decl.toNat ∧ rbuf.length < decl.toNat
  retryBound : ∀ k, s.maxRetries = some k → s.retry ≤ k

/-- What `SessionInv` comes to while a transfer is in flight, whichever of its engine states it is in. -/
structure FlightInv (s : State) : Prop extends TransferInv s where
  noResult : s.result = none
  noCause : s.failCause = .none

/-- What STATE adds: RESULT and FAIL_CAUSE as it says, and NEXT prepared in AwaitAck and Advance. -/
theorem TransferInv.session {s : State} (h : TransferInv s) (hdone : s.result = some .success ↔ s.engine = .done)
    (hfailed : s.result = some .failure ↔ s.engine = .failed) (hcause : s.failCause ≠ .none ↔ s.engine = .failed)
    (hnext : s.engine = .awaitAck ∨ s.engine = .advance →
      s.next = nextSegment s.size s.effChunk s.cur ∧ s.nextLines.isSome = s.next.isSome)
    (hadv : s.engine = .advance → ∃ n lines, s.next = some n ∧ s.nextLines = some lines ∧ s.ack = n.off) :
    SessionInv s :=
  { h with
    curNonempty := fun _ _ => h.curNonempty
    curBudget := fun _ _ => h.curBudget
    chunkLegal := fun _ => h.chunkLegal
    resultDone := hdone
    resultFailed := hfailed
    causeFailed := hcause
    collecting := fun decl rbuf hr => (h.collecting decl rbuf hr).imp_right fun hlt _ => hlt
    nextReady := hnext
    advanceReady := hadv }

/-- RESULT and FAIL_CAUSE are clear while the transfer has not ended (10_state.md R34, R44). -/
theorem SessionInv.unreported {s : State} (h : SessionInv s) (hd : s.engine ≠ .done) (hf : s.engine ≠ .failed) :
    s.result = none ∧ s.failCause = .none := by
  refine ⟨?_, not_not.1 (mt h.causeFailed.1 hf)⟩
  rcases hr : s.result with - | - | -
  · rfl
  · exact absurd (h.resultDone.1 hr) hd
  · exact absurd (h.resultFailed.1 hr) hf

theorem SessionInv.flight {s : State} (h : SessionInv s) (he : inFlight s.engine) : FlightInv s := by
  obtain ⟨hi, hp, hd, hf⟩ : s.engine ≠ .idle ∧ s.engine ≠ .prepareFirst ∧ s.engine ≠ .done ∧ s.engine ≠ .failed := by
    rcases he with he | he | he | he <;> simp [he]
  obtain ⟨hresult, hcause⟩ := h.unreported hd hf
  exact { h with
    curNonempty := h.curNonempty hi hp
    curBudget := h.curBudget hi hp
    chunkLegal := h.chunkLegal hi
    noResult := hresult
    noCause := hcause
    collecting := fun decl rbuf hr => (h.collecting decl rbuf hr).imp_right (· hf) }

/-- A transfer in flight, in an engine state for which NEXT is as it should be. -/
theorem FlightInv.session {s : State} (h : FlightInv s) (he : inFlight s.engine)
    (hnext : s.engine = .awaitAck ∨ s.engine = .advance →
      s.next = nextSegment s.size s.effChunk s.cur ∧ s.nextLines.isSome = s.next.isSome)
    (hadv : s.engine = .advance → ∃ n lines, s.next = some n ∧ s.nextLines = some lines ∧ s.ack = n.off) :
    SessionInv s := by
  have hend : s.engine ≠ .done ∧ s.engine ≠ .failed := by rcases he with he | he | he | he <;> simp [he]
  exact h.toTransferInv.session (by simp [h.noResult, hend]) (by simp [h.noResult, hend]) (by simp [h.noCause, hend])
    hnext hadv

/-- SendAndPrepareNext and Retransmit ask nothing of NEXT beyond what a transfer in flight keeps. -/
theorem FlightInv.session_of_sending {s : State} (h : FlightInv s)
    (he : s.engine = .sendAndPrepareNext ∨ s.engine = .retransmit) : SessionInv s :=
  h.session (by unfold inFlight; tauto) (by rcases he with he | he <;> simp [he]) (by rcases he with he | he <;> simp [he])

/-- A failure ends a transfer in flight with everything it sent before (60_exceptions.md R251). -/
theorem FlightInv.inv_raiseFailure {s : State} (h : FlightInv s) {c : FailCause} (hc : c ≠ .none) (he : s.emits = [])
    (i : Int) : Inv (raiseFailure c i s) where
  session := TransferInv.session { h.toTransferInv with } (by simp) (by simp) (by simp [hc]) (by simp) (by simp)
  port := ⟨rfl, rfl, .inl (by simp [he])⟩

/-- A transfer in flight ends well, its last progress reported (44_upload_engine.md R221, R226). -/
theorem FlightInv.inv_enterDone {s : State} (h : FlightInv s) (he : s.emits = []) :
    Inv (enterDone (emit (.progress s.ack) s)) where
  session := TransferInv.session { h.toTransferInv with } (by simp) (by simp) (by simp [h.noCause]) (by simp) (by simp)
  port := ⟨rfl, rfl, .inl (by simp [he])⟩

/-! What the port tells of the engine. -/

theorem Inv.engine_of_scanning {s : State} (h : Inv s) (hs : s.scan ≠ .off) : s.engine = .awaitAck ∧ s.outstanding = none := by
  have hport := h.port
  cases he : s.engine <;> simp_all [portDiscipline]

theorem Inv.engine_of_write {s : State} (h : Inv s) (ho : s.outstanding = some .write) : s.engine = .sendAndPrepareNext := by
  have hport := h.port
  cases he : s.engine <;> simp_all [portDiscipline]

theorem Inv.engine_of_read {s : State} (h : Inv s) (ho : s.outstanding = some .read) : s.engine = .awaitAck := by
  have hport := h.port
  cases he : s.engine <;> simp_all [portDiscipline]

theorem Inv.outstanding_of_transition {s : State} (h : Inv s)
    (he : s.engine = .prepareFirst ∨ s.engine = .retransmit ∨ s.engine = .advance) : s.outstanding = none := by
  have hport := h.port
  rcases he with he | he | he <;> simp_all [portDiscipline]

theorem Inv.flight_of_scanning {s : State} (h : Inv s) (hs : s.scan ≠ .off) : FlightInv s :=
  h.session.flight (.inr (.inl (h.engine_of_scanning hs).1))

theorem Inv.flight_of_write {s : State} (h : Inv s) (ho : s.outstanding = some .write) : FlightInv s :=
  h.session.flight (.inl (h.engine_of_write ho))

theorem Inv.flight_of_read {s : State} (h : Inv s) (ho : s.outstanding = some .read) : FlightInv s :=
  h.session.flight (.inr (.inl (h.engine_of_read ho)))

theorem portDiscipline_of_scanning {s : State} (he : s.engine = .awaitAck) (hs : s.scan ≠ .off) (hem : s.emits = [])
    (ho : s.outstanding = none) : portDiscipline s := by
  simp [portDiscipline, he, hs, hem, ho]

theorem portDiscipline_of_retransmit {s : State} (he : s.engine = .retransmit) (hs : s.scan = .off) (hem : s.emits = [])
    (ho : s.outstanding = none) : portDiscipline s := by
  simp [portDiscipline, he, hs, hem, ho]

theorem portDiscipline_enterSend {s : State} (hs : s.scan = .off) (hem : s.emits = []) (ho : s.outstanding = none) :
    portDiscipline (enterSend s) :=
  ⟨hs, .inl ⟨by simp [hem], ho⟩⟩

/-- What is emitted leaves in its turn, and the operation then awaited is the engine state's. -/
theorem portDiscipline_emitted {s : State} {e : OutEvent} {es : List OutEvent} (h : portDiscipline s)
    (hem : s.emits = e :: es) :
    portDiscipline { s with emits := es, out := s.out ++ [e], outstanding := e.awaits s.outstanding } := by
  cases he : s.engine <;> simp only [portDiscipline, he, hem, List.cons.injEq, reduceCtorEq, false_and, and_false, or_false] at h ⊢
  case sendAndPrepareNext =>
    obtain ⟨hs, ⟨rfl, rfl⟩, -⟩ := h
    exact ⟨hs, .inr ⟨rfl, rfl⟩⟩
  case awaitAck =>
    obtain ⟨hs, ⟨rfl, rfl⟩, -⟩ := h
    exact .inl ⟨hs, .inr ⟨rfl, rfl⟩⟩
  case advance =>
    obtain ⟨ho, hs, rfl, rfl⟩ := h
    exact ⟨ho, hs, .inr rfl⟩
  case done =>
    obtain ⟨ho, hs, ⟨rfl, rfl⟩ | ⟨rfl, rfl⟩⟩ := h
    · exact ⟨ho, hs, .inr (.inl rfl)⟩
    · exact ⟨ho, hs, .inr (.inr rfl)⟩
  case failed =>
    obtain ⟨ho, hs, rfl, rfl⟩ := h
    exact ⟨ho, hs, .inr rfl⟩

/-! The decoder's registers. -/

theorem feedByte_freshEmpty {p : Bytes × Bool} (h : p.2 = true → p.1 = []) (b : Byte) :
    (feedByte p b).2 = true → (feedByte p b).1 = [] := by
  unfold feedByte
  split
  · exact h
  · simp

/-- DecFeed keeps ACC empty while FRESH is 1 (10_state.md R37). -/
theorem decFeed_freshEmpty {s : State} (h : s.fresh = true → s.acc = []) (bs : Bytes) :
    (decFeed bs s).fresh = true → (decFeed bs s).acc = [] :=
  List.foldlRecOn bs feedByte (motive := fun p => p.2 = true → p.1 = []) h fun _ hp b _ => feedByte_freshEmpty hp b

/-- A line is taken only once FRESH is 0. -/
theorem SessionInv.takeLine {s : State} {rest : Bytes} (h : SessionInv s) (hl : TakesLine s rest) :
    SessionInv { s with acc := rest } :=
  { h with
    freshEmpty := fun hf => by
      obtain ⟨line, hline⟩ := hl.line
      rw [h.freshEmpty hf] at hline
      cases hline }

theorem SessionInv.two_le_declared {s : State} {decl : Word16} (h : SessionInv s) (hd : declared s decl) : 2 ≤ decl.toNat := by
  rcases hd with hd | ⟨rbuf, hr⟩
  · exact hd
  · exact (h.collecting decl rbuf hr).1

/-! Segments. -/

/-- The segment that NextSegment gives follows CUR in the image and keeps to the budget (44_upload_engine.md R214, R235). -/
theorem nextSegment_follows {size effChunk : Nat} {cur n : Segment} (heff : 1 ≤ effChunk)
    (h : nextSegment size effChunk cur = some n) :
    n.off = cur.off + cur.len ∧ n.off + n.len ≤ size ∧ 1 ≤ n.len ∧ n.kind = .segN ∧ n.len ≤ effChunk := by
  have hin := nextSegment_inImage h
  obtain ⟨hlt, rfl⟩ := nextSegment_eq_some_iff.1 h
  refine ⟨rfl, hin, ?_, rfl, Nat.min_le_right _ _⟩
  show 1 ≤ min _ _
  omega

/-- Advance starts where the acknowledged offset is NEXT's (44_upload_engine.md R232). -/
theorem SessionInv.ack_eq_off {s : State} {n : Segment} {ack : Nat} (h : SessionInv s) (he : s.engine = .advance)
    (hn : s.next = some n) (hack : s.ack = ack) : ack = n.off := by
  obtain ⟨n', -, hn', -, hack'⟩ := h.advanceReady he
  obtain rfl : n = n' := Option.some.inj (hn.symm.trans hn')
  exact Int.ofNat.inj (hack.symm.trans hack')

theorem FlightInv.effChunk_pos {s : State} (h : FlightInv s) : 1 ≤ s.effChunk := by
  obtain ⟨hmin, -, heff⟩ := h.chunkLegal
  omega

/-! The transitions, by the engine state they start from. -/

/-- PrepareFirst opens the flight with segment 0 (44_upload_engine.md R212). -/
theorem SessionInv.flight_of_firstPrepared {s : State} (h : SessionInv s) (he : s.engine = .prepareFirst) (lines : Bytes) :
    FlightInv { s with
      off := 0, cur := firstSegment s.size, tmo := .first, retry := 0, next := none, nextLines := none,
      curLines := lines } := by
  obtain ⟨hresult, hcause⟩ := h.unreported (by simp [he]) (by simp [he])
  have hchunk := h.chunkLegal (by simp [he])
  exact { h with
    offIsCur := rfl
    curInImage := show 0 + min 32 s.size ≤ s.size by omega
    nextFollows := by simp
    kindByOffset := by simp [firstSegment]
    curNonempty := show 0 < min 32 s.size ∨ s.size = 0 by omega
    curBudget := show min 32 s.size ≤ s.effChunk by omega
    chunkLegal := hchunk
    timeoutClass := by simp
    noResult := hresult
    noCause := hcause
    collecting := fun decl rbuf hr => (h.collecting decl rbuf hr).imp_right (· (by simp [he]))
    retryBound := by simp }

/-- Retransmit stays within the retry bound and takes the timeout class of CUR's offset (44_upload_engine.md R228, R229). -/
theorem FlightInv.rebuilt {s : State} (h : FlightInv s) (hr : retriesExhausted s = false) (lines : Bytes) :
    FlightInv { s with
      retry := s.retry + 1, tmo := if s.cur.off = 0 then .first else .next, curLines := lines } :=
  { h with
    timeoutClass := by simp [h.offIsCur]
    retryBound := fun k hk => by
      simp only [retriesExhausted, show s.maxRetries = some k from hk, decide_eq_false_iff_not, not_le] at hr
      exact hr }

/-- Advance adopts the acknowledged NEXT (44_upload_engine.md R225), which begins after offset 0 and before the image's end. -/
theorem FlightInv.adopted {s : State} {n : Segment} (h : FlightInv s) (hn : s.next = some n) (lines : Bytes) :
    FlightInv { s with
      cur := n, curLines := lines, off := n.off, tmo := .next, retry := 0, next := none, nextLines := none } := by
  obtain ⟨hoff, hin, hlen, hkind, hbudget⟩ := h.nextFollows n hn
  have hpos : n.off ≠ 0 := by
    rcases h.curNonempty with hc | hc <;> omega
  exact { h with
    offIsCur := rfl
    curInImage := hin
    nextFollows := by simp
    kindByOffset := by simp [hkind, hpos]
    curNonempty := .inl hlen
    curBudget := hbudget
    timeoutClass := by simp [hpos]
    retryBound := by simp }

/-- WR_OK prepares the segment after CUR, where there is one, and AwaitAck begins with a fresh accumulation (44_upload_engine.md
R216, R217). -/
theorem FlightInv.inv_enterAwaitAck {s : State} (h : FlightInv s) (hn : s.next = nextSegment s.size s.effChunk s.cur)
    (hl : s.nextLines.isSome = s.next.isSome) (hs : s.scan = .off) (hem : s.emits = []) (ho : s.outstanding = none) :
    Inv (enterAwaitAck s) where
  session :=
    have hflight : FlightInv (enterAwaitAck s) := { h with freshEmpty := fun _ => rfl, collecting := by rintro _ _ ⟨⟩ }
    hflight.session (.inr (.inl rfl)) (fun _ => ⟨hn, hl⟩) (by simp)
  port := .inl ⟨hs, .inl ⟨by simp [hem], ho⟩⟩

/-- An acknowledgement of CUR's end finds NEXT prepared (44_upload_engine.md R221, R232). -/
theorem Inv.inv_segmentAcknowledged {s : State} {rc ack : Int} (h : Inv s) (hm : HoldsMessage s) (hlt : ack < s.size)
    (hack : ack = s.cur.off + s.cur.len) :
    Inv (emit (.progress ack) { s with scan := .off, rc := rc, ack := ack, engine := .advance }) := by
  obtain ⟨m, hscan⟩ := hm.scan
  obtain ⟨he, ho⟩ := h.engine_of_scanning (by simp [hscan])
  have hflight : FlightInv (emit (.progress ack) { s with scan := .off, rc := rc, ack := ack, engine := .advance }) :=
    { h.session.flight (.inr (.inl he)) with }
  obtain ⟨hnext, hlines⟩ := h.session.nextReady (.inl he)
  refine ⟨hflight.session (.inr (.inr (.inr rfl))) (fun _ => ⟨hnext, hlines⟩) fun _ => ?_, ho, rfl, .inl (by simp [hm.emits])⟩
  have hsome : s.next = some ⟨s.cur.off + s.cur.len, min (s.size - (s.cur.off + s.cur.len)) s.effChunk, .segN⟩ :=
    hnext.trans (nextSegment_eq_some_iff.2 ⟨by omega, rfl⟩)
  obtain ⟨lines, hl⟩ := Option.isSome_iff_exists.1 (hlines.trans (by rw [hsome]; rfl))
  exact ⟨_, lines, hsome, hl, by simp [hack]⟩

/-- START opens a session on a loaded image (44_upload_engine.md R210). -/
theorem sessionInv_started (size : Nat) (img : Bytes) {chunk : Nat} (tFirst tNext : Nat) (crcInit : Word16)
    (retries : Option Nat) (strict : Bool) (rest : Bytes) (s : State) (hmin : 64 ≤ chunk) (hmax : chunk ≤ 2048) :
    SessionInv { resetSession s with
      size := size, img := Memory.ofBytes img, chunkCfg := chunk, effChunk := effChunkOf chunk, tFirst := tFirst,
      tNext := tNext, crcInit := crcInit, maxRetries := retries, strictOff := strict, engine := .prepareFirst,
      port := rest } := by
  constructor
  case imageCanonical => exact Memory.ofBytes_wf img
  case chunkLegal => exact fun _ => ⟨hmin, hmax, rfl⟩
  all_goals simp [State.reset]

theorem Machine.Transition.inv {s t : State} (htr : Transition s t) (h : Inv s) : Inv t := by
  cases htr with
  | emitted hem => exact ⟨{ h.session with }, portDiscipline_emitted h.port hem⟩
  | lineIgnored hl =>
    obtain ⟨he, ho⟩ := h.engine_of_scanning (by simp [hl.scan])
    exact ⟨h.session.takeLine hl, portDiscipline_of_scanning he (by simp [hl.scan]) hl.emits ho⟩
  | lineCollected hl hd hlt =>
    obtain ⟨he, ho⟩ := h.engine_of_scanning (by simp [hl.scan])
    refine ⟨{ h.session.takeLine hl with collecting := ?_ }, portDiscipline_of_scanning he (by simp [hl.scan]) hl.emits ho⟩
    rintro _ _ ⟨⟩
    exact ⟨h.session.two_le_declared hd, fun _ => hlt⟩
  | messageChecked hl =>
    obtain ⟨he, ho⟩ := h.engine_of_scanning (by simp [hl.scan])
    exact ⟨{ h.session.takeLine hl with collecting := by rintro _ _ ⟨⟩ },
      portDiscipline_of_scanning he (by simp) hl.emits ho⟩
  | @lineFailed rest _ sub hl hd =>
    obtain ⟨he, -⟩ := h.engine_of_scanning (by simp [hl.scan])
    have hflight : FlightInv { s with acc := rest } := (h.session.takeLine hl).flight (.inr (.inl he))
    have hfailed : Inv (integrityFailure sub { s with acc := rest }) :=
      hflight.inv_raiseFailure (by decide) hl.emits _
    exact ⟨{ hfailed.session with
      collecting := fun decl rbuf hr => ⟨h.session.two_le_declared (hd decl rbuf hr), fun hf => absurd rfl hf⟩ },
      hfailed.port⟩
  | moreNeeded hem hs =>
    obtain ⟨he, ho⟩ := h.engine_of_scanning (by simp [hs])
    refine ⟨{ h.session with }, ?_⟩
    simp [portDiscipline, he, ho, hem]
  | messageDiscarded hm =>
    obtain ⟨m, hscan⟩ := hm.scan
    obtain ⟨he, ho⟩ := h.engine_of_scanning (by simp [hscan])
    exact ⟨{ h.session with }, portDiscipline_of_scanning he (by simp) hm.emits ho⟩
  | @responseFailed c i rc ack hm hc =>
    obtain ⟨m, hscan⟩ := hm.scan
    have hflight : FlightInv { s with scan := .off, rc := rc, ack := ack } :=
      { h.flight_of_scanning (by simp [hscan]) with }
    exact hflight.inv_raiseFailure hc hm.emits i
  | @transferCompleted rc ack hm =>
    obtain ⟨m, hscan⟩ := hm.scan
    have hflight : FlightInv { s with scan := .off, rc := rc, ack := ack } :=
      { h.flight_of_scanning (by simp [hscan]) with }
    exact hflight.inv_enterDone hm.emits
  | @offsetMismatched rc ack hm =>
    obtain ⟨m, hscan⟩ := hm.scan
    obtain ⟨-, ho⟩ := h.engine_of_scanning (by simp [hscan])
    have hflight : FlightInv { s with scan := .off, rc := rc, ack := ack, engine := .retransmit } :=
      { h.flight_of_scanning (by simp [hscan]) with }
    exact ⟨hflight.session_of_sending (.inr rfl), portDiscipline_of_retransmit rfl rfl hm.emits ho⟩
  | segmentAcknowledged hm hlt hack => exact h.inv_segmentAcknowledged hm hlt hack
  | @firstPrepared lines hq he _ =>
    obtain ⟨-, hem, hs⟩ := hq
    have hflight := h.session.flight_of_firstPrepared he lines
    exact ⟨FlightInv.session_of_sending { hflight with } (.inl rfl),
      portDiscipline_enterSend hs hem (h.outstanding_of_transition (.inl he))⟩
  | retriesRanOut hq he =>
    obtain ⟨-, hem, -⟩ := hq
    exact (h.session.flight (.inr (.inr (.inl he)))).inv_raiseFailure (by decide) hem _
  | @segmentRebuilt lines hq he hr _ =>
    obtain ⟨-, hem, hs⟩ := hq
    have hflight := (h.session.flight (.inr (.inr (.inl he)))).rebuilt hr lines
    exact ⟨FlightInv.session_of_sending { hflight with } (.inl rfl),
      portDiscipline_enterSend hs hem (h.outstanding_of_transition (.inr (.inl he)))⟩
  | @advanced n lines ack hq he hn hl hack =>
    obtain ⟨-, hem, hs⟩ := hq
    have hflight := h.session.flight (.inr (.inr (.inr he)))
    obtain ⟨-, hin, hlen, -⟩ := hflight.nextFollows n hn
    obtain rfl := h.session.ack_eq_off he hn hack
    rw [if_neg (by omega)]
    exact ⟨FlightInv.session_of_sending { hflight.adopted hn lines with } (.inl rfl),
      portDiscipline_enterSend hs hem (h.outstanding_of_transition (.inr (.inr he)))⟩
  | requestBuilt => exact ⟨{ h.session with }, h.port⟩
  | started hq _ _ hmin hmax =>
    obtain ⟨-, hem, -⟩ := hq
    exact ⟨sessionInv_started _ _ _ _ _ _ _ _ s hmin hmax, hem, rfl, rfl⟩
  | lastWritten hq ho hn =>
    obtain ⟨-, hem, hs⟩ := hq
    exact FlightInv.inv_enterAwaitAck { h.flight_of_write ho with nextFollows := by simp } hn.symm rfl hs hem rfl
  | nextPrepared hq ho hn _ =>
    obtain ⟨-, hem, hs⟩ := hq
    have hflight := h.flight_of_write ho
    refine FlightInv.inv_enterAwaitAck { hflight with nextFollows := ?_ } hn.symm rfl hs hem rfl
    rintro _ ⟨⟩
    exact nextSegment_follows hflight.effChunk_pos hn
  | @writeFailed rest sent hq ho =>
    obtain ⟨-, hem, -⟩ := hq
    have hflight : FlightInv { s with port := rest, wire := s.wire ++ sent, draws := s.draws + 1 } :=
      { h.flight_of_write ho with }
    exact hflight.inv_raiseFailure (by decide) hem _
  | dataRead hq ho =>
    obtain ⟨-, hem, -⟩ := hq
    exact ⟨{ h.session with freshEmpty := decFeed_freshEmpty h.session.freshEmpty _ },
      portDiscipline_of_scanning (h.engine_of_read ho) (by simp) hem rfl⟩
  | @readTimedOut rest hq ho =>
    obtain ⟨-, hem, hs⟩ := hq
    have hflight : FlightInv { s with port := rest, outstanding := none, engine := .retransmit } :=
      { h.flight_of_read ho with }
    exact ⟨hflight.session_of_sending (.inr rfl), portDiscipline_of_retransmit rfl hs hem rfl⟩
  | @readFailed rest hq ho =>
    obtain ⟨-, hem, -⟩ := hq
    have hflight : FlightInv { s with port := rest } := { h.flight_of_read ho with }
    exact hflight.inv_raiseFailure (by decide) hem _

/-- During a transfer OFF and CUR stand, or Advance adopts the segment after CUR (44_upload_engine.md R231, R234). -/
theorem Machine.Transition.off_cur_cases {s t : State} (htr : Transition s t) (h : Inv s) (hs : s.engine ≠ .prepareFirst)
    (ht : t.engine ≠ .prepareFirst) :
    (t.off = s.off ∧ t.cur = s.cur) ∨
      (s.engine = .advance ∧ t.off = s.cur.off + s.cur.len ∧ nextSegment s.size s.effChunk s.cur = some t.cur) := by
  cases htr
  case advanced n lines ack hq he hn hl hack =>
    obtain ⟨hoff, -⟩ := h.session.nextFollows n hn
    obtain rfl := h.session.ack_eq_off he hn hack
    obtain ⟨hnext, -⟩ := h.session.nextReady (.inr he)
    have hsome : nextSegment s.size s.effChunk s.cur = some n := hnext.symm.trans hn
    right
    split <;> exact ⟨he, hoff, hsome⟩
  case firstPrepared he _ => exact absurd he hs
  case started => exact absurd rfl ht
  all_goals exact .inl ⟨rfl, rfl⟩

end Sys2Proof

namespace Sys2Proof.Proofs

open Sys2Proof.Machine

/-- Settles O45: power-on reset meets the invariant, and every transition keeps it. -/
theorem everyStepKeepsTheInvariant : Obligations.EveryStepKeepsTheInvariant := by
  intro s t hinv h
  rcases step_next h with ⟨-, rfl⟩ | ⟨-, htr⟩
  · exact ⟨{ inv_reset.session with }, inv_reset.port⟩
  · exact htr.inv hinv

/-- Settles O49: OFF and CUR move in Advance alone, and OFF stays in the image by the invariant of the next state. -/
theorem committedOffsetOnlyAdvances : Obligations.CommittedOffsetOnlyAdvances := by
  intro s t hinv hr hs h ht
  have htr := step_transition hr h
  have hoff := (htr.inv hinv).session.offIsCur
  have hin := (htr.inv hinv).session.curInImage
  have hmoves := htr.off_cur_cases hinv hs ht
  refine ⟨?_, by omega, hmoves⟩
  rcases hmoves with ⟨hkept, -⟩ | ⟨-, hadv, -⟩
  · exact hkept.ge
  · rw [hadv, hinv.session.offIsCur]
    exact Nat.le_add_right _ _

end Sys2Proof.Proofs
end

section
/-! PROOFS. The transport port (20_memory.md): its two failures, the calls that wait for a transfer, and one request in flight. -/

namespace Sys2Proof

open Sys2Proof.Machine

/-! The transport's failures. -/

/-- The one shared failure of the model is the failure that the statements spell out (60_exceptions.md R251). -/
theorem raiseFailure_eq_failedWith (c : FailCause) (i : Int) (s : State) : raiseFailure c i s = failedWith c i s := rfl

theorem execWrErr_of_write {s : State} (ho : s.outstanding = some .write) :
    execWrErr s = .next (raiseFailure .transportWrite s.cur.off
      { s with wire := s.wire ++ s.curLines.take (Config.deliveredCount s.draws), draws := s.draws + 1 }) :=
  if_neg (not_not.2 ho)

theorem execRdErr_of_read {s : State} (ho : s.outstanding = some .read) :
    execRdErr s = .next (raiseFailure .transportRead s.cur.off s) :=
  if_neg (not_not.2 ho)

/-! The store of calls. -/

/-- Only a call that runs takes from the store of calls or writes the last built message, and none runs during a transfer. -/
theorem Machine.Transition.calls_built_kept {s t : State} (htr : Transition s t) (hw : callsWait s) :
    t.calls = s.calls ∧ t.built = s.built := by
  cases htr
  case requestBuilt hc => exact absurd hw ((callAdmitted_eq_true_iff_not_callsWait s).1 hc)
  case advanced => split <;> exact ⟨rfl, rfl⟩
  all_goals exact ⟨rfl, rfl⟩

/-! Sequences of output events. -/

theorem writeOpen_append (w : Bool) (as bs : List OutEvent) : writeOpen w (as ++ bs) = writeOpen (writeOpen w as) bs := by
  induction as generalizing w with
  | nil => rfl
  | cons e as ih => cases e <;> exact ih _

theorem lockstep_append (w : Bool) (as bs : List OutEvent) :
    lockstep w (as ++ bs) = (lockstep w as && lockstep (writeOpen w as) bs) := by
  induction as generalizing w with
  | nil => rfl
  | cons e as ih => cases e <;> simp [lockstep, writeOpen, ih, Bool.and_assoc]

/-- Whether or not a WRITE is open before them, these events are in lockstep with it and leave none open. -/
def closesWrite (es : List OutEvent) : Prop := ∀ w, lockstep w es = true ∧ writeOpen w es = false

theorem closesWrite_read (deadline : Nat) : closesWrite [.read deadline] := fun _ => ⟨rfl, rfl⟩

theorem closesWrite_result (code : ResultCode) (cause : FailCause) (info : Int) : closesWrite [.result code cause info] :=
  fun _ => ⟨rfl, rfl⟩

theorem closesWrite_progress {es : List OutEvent} (h : closesWrite es) (offset : Int) : closesWrite (.progress offset :: es) := h

/-! What a transition adds to the events sent and being sent. -/

/-- No WRITE is open outside SendAndPrepareNext. -/
theorem OneInFlight.closed {s : State} (h : OneInFlight s) (he : s.engine ≠ .sendAndPrepareNext) :
    writeOpen false (s.out ++ s.emits) = false :=
  Bool.eq_false_iff.2 (mt h.openOnlyInSend he)

theorem OneInFlight.of_events_eq {s t : State} (h : OneInFlight s) (hev : t.out ++ t.emits = s.out ++ s.emits)
    (he : t.engine = s.engine ∨ s.engine ≠ .sendAndPrepareNext) : OneInFlight t where
  alternates := hev ▸ h.alternates
  openOnlyInSend hopen := by
    have hs : s.engine = .sendAndPrepareNext := h.openOnlyInSend (hev ▸ hopen)
    rcases he with he | he
    · exact he.trans hs
    · exact absurd hs he

/-- A READ or a RESULT may follow in every engine state. -/
theorem OneInFlight.of_append_closing {s t : State} {es : List OutEvent} (h : OneInFlight s)
    (hout : t.out = s.out) (hem : t.emits = s.emits ++ es) (hes : closesWrite es) : OneInFlight t where
  alternates := by rw [hout, hem, ← List.append_assoc, lockstep_append, h.alternates, (hes _).1]; rfl
  openOnlyInSend hopen := by
    rw [hout, hem, ← List.append_assoc, writeOpen_append, (hes _).2] at hopen
    cases hopen

/-- SendAndPrepareNext is entered, with its one WRITE, from a state where none is open (44_upload_engine.md R215, R233). -/
theorem OneInFlight.of_append_write {s t : State} {bs : Bytes} (h : OneInFlight s) (hout : t.out = s.out)
    (hem : t.emits = s.emits ++ [.write bs]) (hs : s.engine ≠ .sendAndPrepareNext)
    (ht : t.engine = .sendAndPrepareNext) : OneInFlight t where
  alternates := by rw [hout, hem, ← List.append_assoc, lockstep_append, h.alternates, h.closed hs]; rfl
  openOnlyInSend _ := ht

/-- A PROGRESS leaves no WRITE open where none was. -/
theorem OneInFlight.of_append_progress {s t : State} {offset : Int} (h : OneInFlight s) (hout : t.out = s.out)
    (hem : t.emits = s.emits ++ [.progress offset]) (hs : s.engine ≠ .sendAndPrepareNext) : OneInFlight t where
  alternates := by rw [hout, hem, ← List.append_assoc, lockstep_append, h.alternates]; rfl
  openOnlyInSend hopen := by
    rw [hout, hem, ← List.append_assoc, writeOpen_append, h.closed hs] at hopen
    cases hopen

theorem oneInFlight_reset (s : State) : OneInFlight (powerOnReset s) where
  alternates := rfl
  openOnlyInSend hopen := by cases hopen

/-- A message is held in AwaitAck alone (42_frame_decoder.md R163, 44_upload_engine.md R218). -/
theorem Inv.engine_of_message {s : State} (h : Inv s) (hm : HoldsMessage s) : s.engine = .awaitAck := by
  obtain ⟨m, hscan⟩ := hm.scan
  exact (h.engine_of_scanning (by simp [hscan])).1

/-- An engine state other than SendAndPrepareNext has no WRITE open, and the step to it from SendAndPrepareNext adds the READ or the
RESULT that closes the WRITE. -/
theorem Machine.Transition.oneInFlight {s t : State} (htr : Transition s t) (hinv : Inv s) (h : OneInFlight s) :
    OneInFlight t := by
  cases htr with
  | emitted hem => exact h.of_events_eq (by simp [hem]) (.inl rfl)
  | lineIgnored | lineCollected | messageChecked | messageDiscarded | dataRead | requestBuilt =>
    exact h.of_events_eq rfl (.inl rfl)
  | started _ ha =>
    refine h.of_events_eq rfl (.inr ?_)
    rcases (startAdmitted_iff _).1 ha with he | he | he <;> simp [he]
  | offsetMismatched hm => exact h.of_events_eq rfl (.inr (by simp [hinv.engine_of_message hm]))
  | readTimedOut _ ho => exact h.of_events_eq rfl (.inr (by simp [hinv.engine_of_read ho]))
  | moreNeeded | lastWritten | nextPrepared => exact h.of_append_closing rfl rfl (closesWrite_read _)
  | lineFailed | responseFailed | retriesRanOut | writeFailed | readFailed =>
    exact h.of_append_closing rfl rfl (closesWrite_result _ _ _)
  | transferCompleted =>
    exact h.of_append_closing rfl (List.append_assoc _ _ _) (closesWrite_progress (closesWrite_result _ _ _) _)
  | segmentAcknowledged hm => exact h.of_append_progress rfl rfl (by simp [hinv.engine_of_message hm])
  | firstPrepared _ he | segmentRebuilt _ he => exact h.of_append_write rfl rfl (by simp [he]) rfl
  | advanced _ he =>
    split
    · exact h.of_append_closing rfl rfl (closesWrite_result _ _ _)
    · exact h.of_append_write rfl rfl (by simp [he]) rfl

end Sys2Proof

namespace Sys2Proof.Proofs

open Sys2Proof.Machine

/-- Settles O47: a WRITE leaves only on entering SendAndPrepareNext, where none is open, and what leaves SendAndPrepareNext adds a READ
or a RESULT. -/
theorem oneRequestInFlight : Obligations.OneRequestInFlight := by
  intro s t hinv hone h
  rcases step_next h with ⟨-, rfl⟩ | ⟨-, htr⟩
  · exact oneInFlight_reset s
  · exact htr.oneInFlight hinv hone

/-- Settles O48: the one transition that runs a call is admitted between transfers alone. -/
theorem callsWaitForTheTransfer : Obligations.CallsWaitForTheTransfer := fun _ _ hr hw h =>
  (step_transition hr h).calls_built_kept hw

/-- Settles O25: how much of a failed WRITE is on the wire is the environment's free value (log 10). -/
theorem transportErrorsFailAtOnce : Obligations.TransportErrorsFailAtOnce := by
  intro s
  simp only [← raiseFailure_eq_failedWith]
  exact ⟨fun ho => ⟨Config.deliveredCount s.draws, execWrErr_of_write ho⟩, execRdErr_of_read⟩

end Sys2Proof.Proofs
end

section
/-! PROOFS. Decoding what the encoder writes: the operands of events and calls (log 3, 4), and the four layers of 30_encoding.md. -/

namespace Sys2Proof.Machine

/-! 16-bit fields (00_scope.md R9). -/

theorem hi_append_lo (v : Word16) : v.extractLsb' 8 8 ++ v.extractLsb' 0 8 = v :=
  (BitVec.extractLsb'_append_extractLsb'_eq_extractLsb' rfl).trans BitVec.extractLsb'_eq_self

theorem hi_of_append (hi lo : Byte) : (hi ++ lo : Word16).extractLsb' 8 8 = hi := BitVec.extractLsb'_append_eq_left

theorem lo_of_append (hi lo : Byte) : (hi ++ lo : Word16).extractLsb' 0 8 = lo := BitVec.extractLsb'_append_eq_right

theorem append_eq_word16_iff {hi lo : Byte} {v : Word16} :
    hi ++ lo = v ↔ hi = v.extractLsb' 8 8 ∧ lo = v.extractLsb' 0 8 := by
  constructor
  · rintro rfl
    exact ⟨(hi_of_append hi lo).symm, (lo_of_append hi lo).symm⟩
  · rintro ⟨rfl, rfl⟩
    exact hi_append_lo v

@[simp] theorem be16_append (hi lo : Byte) : be16 (hi ++ lo) = [hi, lo] := by
  rw [be16, hi_of_append, lo_of_append]

/-! Operands read back, whatever follows them. -/

/-- The 7-bit groups read back one by one; fuel of at least the number is enough for all of them. -/
theorem takeNat_natBytesFuel {fuel n : Nat} (h : n ≤ fuel) (rest : Bytes) :
    takeNat (natBytesFuel fuel n ++ rest) = .ok (n, rest) := by
  induction fuel generalizing n with
  | zero => simp [natBytesFuel, takeNat, Nat.le_zero.1 h]
  | succ fuel ih =>
    rw [natBytesFuel]
    split
    · next hlast =>
      have hbyte : n % 256 = n := by omega
      simp [takeNat, hbyte, hlast]
    · next hmore =>
      have hbyte : (n % 128 + 128) % 256 = n % 128 + 128 := by omega
      have hgroups : takeNat (natBytesFuel fuel (n / 128) ++ rest) = .ok (n / 128, rest) := ih (by omega)
      simp [takeNat, hbyte, hgroups, Nat.mod_add_div]

@[simp] theorem takeNat_natBytes (n : Nat) (rest : Bytes) : takeNat (natBytes n ++ rest) = .ok (n, rest) :=
  takeNat_natBytesFuel le_rfl rest

@[simp] theorem takeSeq_seqBytes (bs rest : Bytes) : takeSeq (seqBytes bs ++ rest) = .ok (bs, rest) := by
  simp [takeSeq, seqBytes]

@[simp] theorem unzigzag_zigzag (i : Int) : unzigzag (zigzag i) = i := by
  cases i with
  | ofNat n => simp [zigzag, unzigzag]
  | negSucc n =>
    have hhalf : (2 * n + 1) / 2 = n := by omega
    simp [zigzag, unzigzag, hhalf]

@[simp] theorem takeInt_zigzag (i : Int) (rest : Bytes) : takeInt (natBytes (zigzag i) ++ rest) = .ok (i, rest) := by
  simp [takeInt]

@[simp] theorem takeWord16_be16 (v : Word16) (rest : Bytes) : takeWord16 (be16 v ++ rest) = .ok (v, rest) := by
  simp [takeWord16, be16, hi_append_lo]

@[simp] theorem natRetries_retriesNat (bound : Option Nat) : natRetries (retriesNat bound) = bound := by
  cases bound <;> rfl

@[simp] theorem takeFlag_flagByte (b : Bool) (rest : Bytes) : takeFlag (flagByte b :: rest) = .ok (b, rest) := by
  cases b <;> rfl

@[simp] theorem takeResult_resultByte (code : ResultCode) (rest : Bytes) :
    takeResult (resultByte code :: rest) = .ok (code, rest) := by
  cases code <;> rfl

@[simp] theorem takeCause_causeCode (cause : FailCause) (rest : Bytes) :
    takeCause (causeCode cause :: rest) = .ok (cause, rest) := by
  cases cause <;> rfl

/-! Events. -/

theorem decodeEvent_encode {i : Instr} (h : i.layer = .event) (rest : Bytes) :
    decodeEvent (encode i ++ rest) = .ok (i, rest) := by
  cases i with
  | wrOk | wrErr | rdTimeout | rdErr => rfl
  | start | rdData | write | read | progress | result =>
    simp [encode, decodeEvent, takeByte, bind, Except.bind]
  | _ => cases h

/-! Request-builder calls. -/

/-- The header's selectors name the request (30_encoding.md R77); the two uploads are told apart by `off`, which is 0 in segment 0
alone (43_message_codec.md R184, R185). -/
theorem decodeRequest_encode {i : Instr} (h : i.layer = .request) (hwf : i.wellFormed = true) (rest : Bytes) :
    decodeRequest (encode i ++ rest) = .ok (i, rest) := by
  cases i with
  | reqReset => rfl
  | reqEchoCtrl | reqUploadSeg0 =>
    simp [encode, requestSelector, headerBytes, be16, decodeRequest, opOf, bind, Except.bind]
  | reqUploadSegN offset data =>
    have hoff : offset ≠ 0 := Nat.pos_iff_ne_zero.1 (of_decide_eq_true hwf)
    simp [encode, requestSelector, headerBytes, be16, decodeRequest, opOf, bind, Except.bind, hoff]
  | _ => cases h

/-! Received messages. -/

/-- The reserved bits of a header's first byte (30_encoding.md R75). -/
theorem res_of_append (res : BitVec 5) (op : BitVec 3) : (res ++ op : Byte).extractLsb' 3 5 = res :=
  BitVec.extractLsb'_append_eq_left

theorem decodeMessage_headerBytes (op : BitVec 3) (hdr : Header) (payload : Bytes) :
    decodeMessage (headerBytes op hdr ++ payload) =
      if op = 1 then .msgReadResponse hdr payload
      else if op = 3 then .msgWriteResponse hdr payload
      else .msgNonresponse (headerBytes op hdr ++ payload) := by
  simp [decodeMessage, headerBytes, be16, Laws.opOf_cat, res_of_append, hi_append_lo]

theorem decodeMessage_of_not_isResponse {msg : Bytes} (h : isResponse msg = false) :
    decodeMessage msg = .msgNonresponse msg := by
  unfold decodeMessage
  split
  · next b0 _ _ _ _ _ _ _ _ =>
    have hop : opOf b0 ≠ 1 ∧ opOf b0 ≠ 3 := by simpa [isResponse] using h
    simp only [hop, if_false]
  · rfl

theorem decodeMessage_encode {i : Instr} (h : i.layer = .message) (hwf : i.wellFormed = true) :
    decodeMessage (encode i) = i := by
  cases i with
  | msgReadResponse hdr payload => exact decodeMessage_headerBytes 1 hdr payload
  | msgWriteResponse hdr payload => exact decodeMessage_headerBytes 3 hdr payload
  | msgNonresponse msg => exact decodeMessage_of_not_isResponse (msg := msg) (by simpa [Instr.wellFormed] using hwf)
  | _ => cases h

/-! Received lines, by the classes of 30_encoding.md R80. -/

/-- A line of at most two bytes is noise, whatever its bytes (42_frame_decoder.md R154). -/
theorem decodeLine_noise {line : Bytes} (h : line.length ≤ 2) : decodeLine line = .lineNoise line := by
  unfold decodeLine
  split
  · simp at h
  · rfl

theorem decodeLine_start {text : Bytes} (h : text ≠ []) : decodeLine (0x06 :: 0x09 :: text) = .lineStart text := by
  obtain ⟨t, ts, rfl⟩ := List.exists_cons_of_ne_nil h
  rfl

theorem decodeLine_cont {text : Bytes} (h : text ≠ []) : decodeLine (0x04 :: 0x14 :: text) = .lineCont text := by
  obtain ⟨t, ts, rfl⟩ := List.exists_cons_of_ne_nil h
  rfl

theorem decodeLine_other {m0 m1 : Byte} {text : Bytes} (h : text ≠ []) (hstart : ¬ (m0 = 0x06 ∧ m1 = 0x09))
    (hcont : ¬ (m0 = 0x04 ∧ m1 = 0x14)) : decodeLine (m0 :: m1 :: text) = .lineOther (m0 ++ m1) text := by
  obtain ⟨t, ts, rfl⟩ := List.exists_cons_of_ne_nil h
  simp only [decodeLine, hstart, hcont, if_false]

/-- The classes of 30_encoding.md R80: a short line, or one of more than two bytes by its marker. -/
theorem line_cases (line : Bytes) :
    line.length ≤ 2 ∨ ∃ m0 m1 t ts, line = m0 :: m1 :: t :: ts ∧
      ((m0 = 0x06 ∧ m1 = 0x09) ∨ (m0 = 0x04 ∧ m1 = 0x14) ∨
        (¬ (m0 = 0x06 ∧ m1 = 0x09) ∧ ¬ (m0 = 0x04 ∧ m1 = 0x14))) := by
  match line with
  | [] | [_] | [_, _] => exact .inl (by simp)
  | m0 :: m1 :: t :: ts => exact .inr ⟨m0, m1, t, ts, rfl, by tauto⟩

/-! When a line instruction is well formed, on the bytes of its line. -/

theorem wellFormed_lineNoise_iff {line : Bytes} :
    (Instr.lineNoise line).wellFormed = true ↔ line.length ≤ 2 ∧ newline ∉ line := by
  simp [Instr.wellFormed]

theorem wellFormed_lineStart_iff {text : Bytes} :
    (Instr.lineStart text).wellFormed = true ↔ text ≠ [] ∧ newline ∉ 0x06 :: 0x09 :: text := by
  simp [Instr.wellFormed, newline]

theorem wellFormed_lineCont_iff {text : Bytes} :
    (Instr.lineCont text).wellFormed = true ↔ text ≠ [] ∧ newline ∉ 0x04 :: 0x14 :: text := by
  simp [Instr.wellFormed, newline]

theorem wellFormed_lineOther_iff {m0 m1 : Byte} {text : Bytes} :
    (Instr.lineOther (m0 ++ m1) text).wellFormed = true ↔
      text ≠ [] ∧ newline ∉ m0 :: m1 :: text ∧ ¬ (m0 = 0x06 ∧ m1 = 0x09) ∧ ¬ (m0 = 0x04 ∧ m1 = 0x14) := by
  have hstart : m0 ++ m1 = (0x0609 : Word16) ↔ m0 = 0x06 ∧ m1 = 0x09 := append_eq_word16_iff
  have hcont : m0 ++ m1 = (0x0414 : Word16) ↔ m0 = 0x04 ∧ m1 = 0x14 := append_eq_word16_iff
  simp only [Instr.wellFormed, hi_of_append, lo_of_append, Bool.and_eq_true, Bool.not_eq_true', List.isEmpty_eq_false_iff,
    List.contains_eq_mem, decide_eq_false_iff_not, bne_iff_ne, ne_eq, hstart, hcont, List.mem_cons, not_or,
    eq_comm (a := newline)]
  tauto

/-- A well-formed line instruction is written as a line of its class, which holds no newline, and the newline. -/
theorem encode_line {i : Instr} (h : i.layer = .line) (hwf : i.wellFormed = true) :
    ∃ line, encode i = line ++ [newline] ∧ newline ∉ line ∧ decodeLine line = i := by
  cases i with
  | lineNoise line =>
    obtain ⟨hshort, hnl⟩ := wellFormed_lineNoise_iff.1 hwf
    exact ⟨line, rfl, hnl, decodeLine_noise hshort⟩
  | lineStart text =>
    obtain ⟨htext, hnl⟩ := wellFormed_lineStart_iff.1 hwf
    exact ⟨_, rfl, hnl, decodeLine_start htext⟩
  | lineCont text =>
    obtain ⟨htext, hnl⟩ := wellFormed_lineCont_iff.1 hwf
    exact ⟨_, rfl, hnl, decodeLine_cont htext⟩
  | lineOther marker text =>
    obtain ⟨m0, m1, rfl⟩ : ∃ m0 m1 : Byte, m0 ++ m1 = marker := ⟨_, _, hi_append_lo marker⟩
    obtain ⟨htext, hnl, hstart, hcont⟩ := wellFormed_lineOther_iff.1 hwf
    exact ⟨m0 :: m1 :: text, by simp [encode], hnl, decodeLine_other htext hstart hcont⟩
  | _ => cases h

theorem decode_line_encode {i : Instr} (h : i.layer = .line) (hwf : i.wellFormed = true) (rest : Bytes) :
    decode .line (encode i ++ rest) = .ok (i, rest) := by
  obtain ⟨line, hline, hnl, hi⟩ := encode_line h hwf
  exact decode_line_ok_iff.2 ⟨line, splitLine_eq_some_iff.2 ⟨by simp [hline], hnl⟩, hi⟩

/-! Input that is no event for the machine. -/

/-- Where no call may run and no event is in store or standing, the machine waits. -/
theorem pendingInput_of_none {s : State} (hc : s.calls = [] ∨ callsWait s) (hb : inputBytes s = []) :
    pendingInput s = .waiting := by
  rcases hc with hcalls | hwait
  · simp [pendingInput, hcalls, hb]
  · have ha : ¬ callAdmitted s = true := by simpa [callAdmitted_eq_true_iff_not_callsWait] using hwait
    simp [pendingInput, ha, hb]

end Sys2Proof.Machine

namespace Sys2Proof.Proofs

open Sys2Proof.Machine

/-- Settles O1, layer by layer. -/
theorem decodeOfEncodeIsTheInstruction : Obligations.DecodeOfEncodeIsTheInstruction := by
  intro i rest hwf
  cases hl : i.layer with
  | event => exact ⟨fun _ => decodeEvent_encode hl rest, nofun⟩
  | line => exact ⟨fun _ => decode_line_encode hl hwf rest, nofun⟩
  | message => exact ⟨fun h => absurd rfl h, fun _ => decode_message_ok_iff.2 ⟨decodeMessage_encode hl hwf, rfl⟩⟩
  | request => exact ⟨fun _ => decodeRequest_encode hl hwf rest, nofun⟩

/-- Settles O3, class by class: on a line of a class the decoder's instruction is that class's own, and the other clauses ask for
another length or marker. -/
theorem receivedLineIsItsClass : Obligations.ReceivedLineIsItsClass := by
  intro line hnl
  rcases line_cases line with hshort | ⟨m0, m1, t, ts, rfl, ⟨rfl, rfl⟩ | ⟨rfl, rfl⟩ | ⟨hstart, hcont⟩⟩
  · rw [decodeLine_noise hshort]
    exact ⟨wellFormed_lineNoise_iff.2 ⟨hshort, hnl⟩, rfl, fun _ => rfl, by omega, by omega, by omega⟩
  · rw [decodeLine_start (List.cons_ne_nil t ts)]
    exact ⟨wellFormed_lineStart_iff.2 ⟨List.cons_ne_nil t ts, hnl⟩, rfl, by simp, by simp, by simp, by simp⟩
  · rw [decodeLine_cont (List.cons_ne_nil t ts)]
    exact ⟨wellFormed_lineCont_iff.2 ⟨List.cons_ne_nil t ts, hnl⟩, rfl, by simp, by simp, by simp, by simp⟩
  · rw [decodeLine_other (List.cons_ne_nil t ts) hstart hcont]
    refine ⟨wellFormed_lineOther_iff.2 ⟨List.cons_ne_nil t ts, hnl, hstart, hcont⟩, by simp [encode, newline], by simp,
      ?_, ?_, ?_⟩
    · exact fun _ h => absurd (by simpa using h) hstart
    · exact fun _ h => absurd (by simpa using h) hcont
    · exact fun _ _ _ => ⟨m0 ++ m1, rfl, (be16_append m0 m1).symm⟩

/-- Settles O2, by evaluating the decoder on the ten words. -/
theorem specWordsDecode : Obligations.SpecWordsDecode := by
  unfold Obligations.SpecWordsDecode
  decide

/-- Settles O29: each answer looks first at the operation it answers. -/
theorem wrongAnswersAreRefused : Obligations.WrongAnswersAreRefused := by
  intro bs s
  exact ⟨fun h => ⟨if_pos h, if_pos h⟩, fun h => ⟨if_pos h, if_pos h, if_pos h⟩⟩

/-- Settles O40: the step takes the environment's input, which is nothing, an output event, or no event. -/
theorem withoutAnEventTheMachineWaits : Obligations.WithoutAnEventTheMachineWaits := by
  rintro s ⟨hreset, hemits, hscan⟩ hp hr ha hc
  rw [step_of_resting hreset hemits hscan hp hr ha]
  refine ⟨fun hport hstanding => ?nothing, fun i rest e hd ho => ?output, fun e hb hd => ?undecodable⟩
  case nothing =>
    rw [pendingInput_of_none hc (by simp [inputBytes_eq, hport, hstanding])]
    rfl
  case output =>
    rw [pendingInput_of_event hc (decodeEvent_ne_nil hd)]
    simp [stepPending, stepEvent, hd, ho]
  case undecodable =>
    rw [pendingInput_of_event hc hb]
    simp [stepPending, stepEvent, hd]

end Sys2Proof.Proofs
end

section
/-! PROOFS. The CRC (40_codec_primitives.md R100–R102) as arithmetic over GF(2): a bit step is linear
and loses nothing, so the CRC of a changed buffer differs from the buffer's by the CRC of the change. -/

namespace Sys2Proof.Machine

/-! Bit steps. -/

theorem crcBit_xor (x y : Word16) : crcBit (x ^^^ y) = crcBit x ^^^ crcBit y := by
  simp only [crcBit, BitVec.getLsbD_xor, BitVec.shiftLeft_xor_distrib]
  cases x.getLsbD 15 <;> cases y.getLsbD 15
  case false.false => simp
  case false.true => simp [BitVec.xor_assoc]
  case true.false => simp; ac_rfl
  case true.true => simp [BitVec.xor_assoc]

/-- The polynomial's lowest coefficient is 1: the bit shifted out at the top comes back at the bottom. -/
theorem getLsbD_zero_crcBit (c : Word16) : (crcBit c).getLsbD 0 = c.getLsbD 15 := by
  unfold crcBit
  split <;> simp_all

theorem crcBit_of_lt {c : Word16} (h : c.toNat < 2 ^ 15) : crcBit c = c <<< 1 :=
  if_neg (by simp [BitVec.getLsbD, Nat.testBit_lt_two_pow h])

theorem eq_zero_of_crcBit {c : Word16} (h : crcBit c = 0) : c = 0 := by
  have htop : c.msb = false := by
    rw [BitVec.msb_eq_getLsbD_last, ← getLsbD_zero_crcBit, h]
    rfl
  have hlt := BitVec.toNat_lt_of_msb_false htop
  rw [crcBit_of_lt hlt] at h
  bv_omega

theorem crcBits_add (m n : Nat) (c : Word16) : crcBits (m + n) c = crcBits n (crcBits m c) := by
  induction m generalizing c with
  | zero => rw [Nat.zero_add, crcBits]
  | succ m ih => rw [Nat.succ_add, crcBits, ih, crcBits]

theorem crcBits_xor (n : Nat) (x y : Word16) : crcBits n (x ^^^ y) = crcBits n x ^^^ crcBits n y := by
  induction n generalizing x y with
  | zero => rfl
  | succ n ih => rw [crcBits, crcBit_xor, ih, crcBits, crcBits]

theorem crcBits_eq_zero_iff {n : Nat} {c : Word16} : crcBits n c = 0 ↔ c = 0 := by
  induction n generalizing c with
  | zero => rfl
  | succ n ih =>
    rw [crcBits, ih]
    exact ⟨eq_zero_of_crcBit, by rintro rfl; rfl⟩

theorem crcBits_inj {n : Nat} {x y : Word16} : crcBits n x = crcBits n y ↔ x = y := by
  calc crcBits n x = crcBits n y
      ↔ crcBits n (x ^^^ y) = 0 := by rw [crcBits_xor]; exact BitVec.xor_eq_zero_iff.symm
    _ ↔ x ^^^ y = 0 := crcBits_eq_zero_iff
    _ ↔ x = y := BitVec.xor_eq_zero_iff

/-- While no bit leaves the register, the bit steps only shift. -/
theorem crcBits_of_lt {n : Nat} {c : Word16} (h : c.toNat * 2 ^ n < 2 ^ 16) : crcBits n c = c <<< n := by
  induction n generalizing c with
  | zero => simp [crcBits]
  | succ n ih =>
    rw [Nat.pow_succ, Nat.mul_comm (2 ^ n), ← Nat.mul_assoc] at h
    have hc : c.toNat * 2 < 2 ^ 16 := lt_of_le_of_lt (Nat.le_mul_of_pos_right _ (Nat.two_pow_pos n)) h
    have hshift : (c <<< 1).toNat = c.toNat * 2 := by
      rw [BitVec.toNat_shiftLeft, Nat.shiftLeft_eq, pow_one, Nat.mod_eq_of_lt hc]
    rw [crcBits, crcBit_of_lt (by omega), ih (by rwa [hshift]), ← BitVec.shiftLeft_add, Nat.add_comm]

theorem crcBits_ushiftRight (n : Nat) (c : Word16) : crcBits n (c >>> n) = c >>> n <<< n := by
  refine crcBits_of_lt ?_
  calc (c >>> n).toNat * 2 ^ n
      = c.toNat / 2 ^ n * 2 ^ n := by rw [BitVec.toNat_ushiftRight, Nat.shiftRight_eq_div_pow]
    _ ≤ c.toNat := Nat.div_mul_le_self _ _
    _ < 2 ^ 16 := c.isLt

/-- The bits that `n` steps shift out of the register, taken by themselves, are worth their own sixteen steps. -/
theorem crcBits_of_le {n : Nat} (h : n ≤ 16) (c : Word16) :
    crcBits n c = c <<< n ^^^ crcBits 16 (c >>> (16 - n)) := by
  have hsplit : c = c >>> (16 - n) <<< (16 - n) ^^^ c <<< n >>> n := by
    ext i hi
    grind
  have hhigh : crcBits n (c >>> (16 - n) <<< (16 - n)) = crcBits 16 (c >>> (16 - n)) := by
    rw [← crcBits_ushiftRight, ← crcBits_add, Nat.sub_add_cancel h]
  have hlow : crcBits n (c <<< n >>> n) = c <<< n := by
    rw [crcBits_ushiftRight]
    ext i hi
    grind
  calc crcBits n c
      = crcBits n (c >>> (16 - n) <<< (16 - n)) ^^^ crcBits n (c <<< n >>> n) := by rw [← crcBits_xor, ← hsplit]
    _ = c <<< n ^^^ crcBits 16 (c >>> (16 - n)) := by rw [hhigh, hlow, BitVec.xor_comm]

/-! Bytes. -/

theorem crcBits_byte (b : Byte) : crcBits 8 (b.zeroExtend 16) = b.zeroExtend 16 <<< 8 :=
  crcBits_of_lt (by simp; omega)

theorem crcByte_eq (c : Word16) (b : Byte) : crcByte c b = crcBits 8 c ^^^ crcBits 16 (b.zeroExtend 16) := by
  rw [crcByte, ← crcBits_byte, crcBits_xor, ← crcBits_add]

theorem crcByte_xor (c c' : Word16) (b b' : Byte) : crcByte (c ^^^ c') (b ^^^ b') = crcByte c b ^^^ crcByte c' b' := by
  simp only [crcByte_eq, BitVec.zeroExtend, BitVec.setWidth_xor, crcBits_xor]
  ac_rfl

theorem crcByte_inj {c c' : Word16} {b : Byte} : crcByte c b = crcByte c' b ↔ c = c' := by
  rw [crcByte, crcByte, crcBits_inj, BitVec.xor_left_inj]

theorem append_eq_shiftLeft_xor (hi lo : Byte) : (hi ++ lo : Word16) = hi.zeroExtend 16 <<< 8 ^^^ lo.zeroExtend 16 := by
  ext i hi
  grind

/-! Sequences of bytes. -/

theorem crc16_append (c : Word16) (d e : Bytes) : crc16 c (d ++ e) = crc16 (crc16 c d) e := List.foldl_append

theorem crc16_inj {c c' : Word16} {d : Bytes} : crc16 c d = crc16 c' d ↔ c = c' := by
  induction d generalizing c c' with
  | nil => rfl
  | cons b d ih => exact ih.trans crcByte_inj

/-- Two bytes are one 16-bit word, and its sixteen bit steps. -/
theorem crc16_pair (c : Word16) (hi lo : Byte) : crc16 c [hi, lo] = crcBits 16 (c ^^^ (hi ++ lo)) := by
  change crcByte (crcByte c hi) lo = _
  rw [append_eq_shiftLeft_xor, ← crcBits_byte, crcByte_eq, crcByte_eq]
  simp only [crcBits_xor, ← crcBits_add, BitVec.xor_assoc, Nat.reduceAdd]

theorem crc16_pair_eq_zero_iff {c : Word16} {hi lo : Byte} : crc16 c [hi, lo] = 0 ↔ c = hi ++ lo := by
  rw [crc16_pair, crcBits_eq_zero_iff]
  exact BitVec.xor_eq_zero_iff

/-- A pattern of 16 bits at bit `k` of three bytes is its `16 + k` bit steps. -/
theorem crc16_burst {k : Nat} (hk : k ≤ 8) (w : Word16) {p : BitVec 24} (hp : p = w.zeroExtend 24 <<< k) :
    crc16 0 [p.extractLsb' 16 8, p.extractLsb' 8 8, p.extractLsb' 0 8] = crcBits (16 + k) w := by
  have hhigh : (p.extractLsb' 16 8).zeroExtend 16 = w >>> (16 - k) := by
    subst hp
    ext i hi
    grind
  have hlow : p.extractLsb' 8 8 ++ p.extractLsb' 0 8 = w <<< k := by
    subst hp
    ext i hi
    grind
  have hfirst : crcByte 0 (p.extractLsb' 16 8) = crcBits 16 (w >>> (16 - k)) := by
    rw [crcByte_eq, hhigh, crcBits_eq_zero_iff.2 rfl]
    exact BitVec.zero_xor
  calc crc16 0 [p.extractLsb' 16 8, p.extractLsb' 8 8, p.extractLsb' 0 8]
      = crcBits 16 (crcByte 0 (p.extractLsb' 16 8) ^^^ (p.extractLsb' 8 8 ++ p.extractLsb' 0 8)) := crc16_pair _ _ _
    _ = crcBits 16 (crcBits k w) := by rw [hfirst, hlow, crcBits_of_le (hk.trans (by decide)) w, BitVec.xor_comm]
    _ = crcBits (16 + k) w := by rw [← crcBits_add, Nat.add_comm]

/-- The CRC of a sum over GF(2) is the sum of the CRCs. -/
theorem crc16_xor {d p : Bytes} (h : d.length = p.length) (c c' : Word16) :
    crc16 (c ^^^ c') (d.zipWith (· ^^^ ·) p) = crc16 c d ^^^ crc16 c' p := by
  induction d generalizing p c c' with
  | nil =>
    obtain rfl := List.length_eq_zero_iff.1 h.symm
    rfl
  | cons a d ih => cases p with
    | nil => cases h
    | cons b p =>
      have htail := ih (Nat.succ.inj h) (crcByte c a) (crcByte c' b)
      rwa [← crcByte_xor] at htail

/-! The check. -/

theorem exists_eq_append_pair {buf : Bytes} (h : 2 ≤ buf.length) : ∃ d hi lo, buf = d ++ [hi, lo] := by
  obtain ⟨hi, lo, htail⟩ := List.length_eq_two.1 (show (buf.drop (buf.length - 2)).length = 2 by simp; omega)
  exact ⟨_, hi, lo, htail ▸ (List.take_append_drop _ _).symm⟩

theorem crcOk_append_pair (init : Word16) (d : Bytes) (hi lo : Byte) :
    crcOk init (d ++ [hi, lo]) = true ↔ crc16 init d = hi ++ lo := by
  have hfield : rdBe16 (d ++ [hi, lo]) d.length = (hi ++ lo : Word16).toNat := by
    rw [BitVec.toNat_append, ← Nat.shiftLeft_add_eq_or_of_lt lo.isLt, Nat.shiftLeft_eq]
    simp [rdBe16]
  simp [crcOk, slice, hfield, ← BitVec.toNat_inj]

theorem crcOk_iff {init : Word16} {buf : Bytes} (h : 2 ≤ buf.length) : crcOk init buf = true ↔ crc16 init buf = 0 := by
  obtain ⟨d, hi, lo, rfl⟩ := exists_eq_append_pair h
  rw [crcOk_append_pair, crc16_append, crc16_pair_eq_zero_iff]

theorem two_le_length_checksum (init : Word16) (m : Bytes) : 2 ≤ (checksum init m).length := by
  simp [checksum, be16]

theorem crc16_checksum (init : Word16) (m : Bytes) : crc16 init (checksum init m) = 0 := by
  rw [checksum, crc16_append, be16, crc16_pair_eq_zero_iff, hi_append_lo]

/-- A change whose own CRC is not 0 is seen wherever it stands: what follows it takes different CRCs to different CRCs. -/
theorem crcOk_checksum_changed {init : Word16} {m pre d p post : Bytes} (hbuf : checksum init m = pre ++ d ++ post)
    (hlen : d.length = p.length) (hp : crc16 0 p ≠ 0) :
    crcOk init (pre ++ d.zipWith (· ^^^ ·) p ++ post) = false := by
  have hsize : 2 ≤ (pre ++ d.zipWith (· ^^^ ·) p ++ post).length := by
    have hbytes := hbuf ▸ two_le_length_checksum init m
    simpa [hlen] using hbytes
  have hzero : crc16 init (pre ++ d ++ post) = 0 := hbuf ▸ crc16_checksum init m
  have hsum : crc16 (crc16 init pre) (d.zipWith (· ^^^ ·) p) = crc16 (crc16 init pre) d ^^^ crc16 0 p := by
    rw [← crc16_xor hlen]
    exact congrArg (crc16 · _) BitVec.xor_zero.symm
  rw [Bool.eq_false_iff, ne_eq, crcOk_iff hsize, ← hzero]
  simp only [crc16_append, crc16_inj, hsum]
  exact fun h => hp ((BitVec.xor_right_inj _).1 (h.trans BitVec.xor_zero.symm))

end Sys2Proof.Machine

namespace Sys2Proof.Proofs

open Sys2Proof.Machine

/-- Settles O5: the two bytes at the end take the CRC to 0 exactly where they are the CRC before them. -/
theorem crcResidueIsZero : Obligations.CrcResidueIsZero :=
  ⟨crc16_checksum, fun _ _ => crcOk_iff⟩

/-- Settles O6: by linearity it is the CRC of the pattern alone that must not be 0, and that is the pattern after some bit steps. -/
theorem crcSeesEveryShortBurst : Obligations.CrcSeesEveryShortBurst := by
  refine ⟨fun init w a b hbuf hw => ?empty, fun init m pre post a b c w k hbuf hw hk => ?window⟩
  case empty =>
    refine crcOk_checksum_changed (pre := []) (d := [a, b]) (p := be16 w) (post := []) hbuf rfl ?_
    rwa [be16, ne_eq, crc16_pair_eq_zero_iff, hi_append_lo, eq_comm]
  case window =>
    refine crcOk_checksum_changed (d := [a, b, c]) (p := [_, _, _]) hbuf rfl ?_
    rwa [crc16_burst hk w rfl, ne_eq, crcBits_eq_zero_iff]

end Sys2Proof.Proofs
end

section
/-! PROOFS. Base64 (40_codec_primitives.md R103–R107): the alphabet, the bytes of a quantum, and which texts decode to which bytes. -/

namespace Sys2Proof.Machine

/-! The alphabet (R103). -/

@[simp] theorem b64Val_b64Sym (k : BitVec 6) : b64Val (b64Sym k) = some k := by
  revert k
  decide

theorem b64Val_isSome_iff {c : Byte} :
    (b64Val c).isSome = true ↔ (0x41 ≤ c.toNat ∧ c.toNat ≤ 0x5A) ∨ (0x61 ≤ c.toNat ∧ c.toNat ≤ 0x7A)
      ∨ (0x30 ≤ c.toNat ∧ c.toNat ≤ 0x39) ∨ c.toNat = 0x2B ∨ c.toNat = 0x2F := by
  simp only [b64Val]
  split_ifs <;> simp <;> omega

theorem ne_pad_of_b64Val {c : Byte} {v : BitVec 6} (h : b64Val c = some v) : c ≠ b64Pad := by
  rintro rfl
  cases h

/-! The bits of a quantum (R104, R105). -/

/-- The three bytes of four 6-bit groups. -/
def quantumOctets (v0 v1 v2 v3 : BitVec 6) : Bytes :=
  let v : BitVec 24 := v0 ++ v1 ++ v2 ++ v3
  [v.extractLsb' 16 8, v.extractLsb' 8 8, v.extractLsb' 0 8]

@[simp] theorem length_quantumOctets (v0 v1 v2 v3 : BitVec 6) : (quantumOctets v0 v1 v2 v3).length = 3 := rfl

theorem quantumOctets_eq (v0 v1 v2 v3 : BitVec 6) :
    quantumOctets v0 v1 v2 v3 =
      [v0 ++ (v1 >>> 4).setWidth 2, v1.setWidth 4 ++ (v2 >>> 2).setWidth 4, v2.setWidth 2 ++ v3] := by
  simp only [quantumOctets, List.cons.injEq, and_true]
  refine ⟨?_, ?_, ?_⟩ <;> ext i hi <;> grind

/-- R106: the first byte holds nothing of the second group's low 4 bits, and nothing of the groups after it. -/
theorem quantumOctets_take_one {v1 v1' : BitVec 6} (h : v1 >>> 4 = v1' >>> 4) (v0 v2 v3 v2' v3' : BitVec 6) :
    (quantumOctets v0 v1 v2 v3).take 1 = (quantumOctets v0 v1' v2' v3').take 1 := by
  simp [quantumOctets_eq, h]

/-- R106: the first two bytes hold nothing of the third group's low 2 bits, and nothing of the fourth group. -/
theorem quantumOctets_take_two {v2 v2' : BitVec 6} (h : v2 >>> 2 = v2' >>> 2) (v0 v1 v3 v3' : BitVec 6) :
    (quantumOctets v0 v1 v2 v3).take 2 = (quantumOctets v0 v1 v2' v3').take 2 := by
  simp [quantumOctets_eq, h]

/-- The groups that the encoder cuts give back the bytes they are cut from. -/
theorem quantumOctets_of_quantumGroups {a b c : Byte} {g0 g1 g2 g3 : BitVec 6}
    (h : quantumGroups (a ++ b ++ c) = (g0, g1, g2, g3)) : quantumOctets g0 g1 g2 g3 = [a, b, c] := by
  have hjoin : g0 ++ g1 ++ g2 ++ g3 = a ++ b ++ c := by
    cases h
    rw [BitVec.extractLsb'_append_extractLsb'_eq_extractLsb' (by rfl),
      BitVec.extractLsb'_append_extractLsb'_eq_extractLsb' (by rfl),
      BitVec.extractLsb'_append_extractLsb'_eq_extractLsb' (by rfl)]
    exact BitVec.extractLsb'_eq_self
  simp only [quantumOctets, hjoin, List.cons.injEq, and_true]
  refine ⟨?_, ?_, ?_⟩ <;> ext i hi <;> grind

/-! The bytes of a quantum, by its pads (R105). -/

theorem quantumPads_of_ne {c3 : Byte} (h : c3 ≠ b64Pad) (c0 c1 c2 : Byte) : quantumPads c0 c1 c2 c3 = 0 := if_pos h

theorem quantumPads_one {c2 : Byte} (h : c2 ≠ b64Pad) (c0 c1 : Byte) : quantumPads c0 c1 c2 b64Pad = 1 := by
  rw [quantumPads, if_neg (not_not.2 rfl), if_pos h]

theorem quantumPads_two {c1 : Byte} (h : c1 ≠ b64Pad) (c0 : Byte) : quantumPads c0 c1 b64Pad b64Pad = 2 := by
  rw [quantumPads, if_neg (not_not.2 rfl), if_neg (not_not.2 rfl), if_pos h]

theorem fourth_eq_pad {c0 c1 c2 c3 : Byte} (h : quantumPads c0 c1 c2 c3 ≠ 0) : c3 = b64Pad :=
  by_contra fun hne => h (quantumPads_of_ne hne c0 c1 c2)

theorem third_eq_pad {c0 c1 c2 : Byte} (h : quantumPads c0 c1 c2 b64Pad ≠ 1) : c2 = b64Pad :=
  by_contra fun hne => h (quantumPads_one hne c0 c1)

theorem quantumBytes_full {c0 c1 c2 c3 : Byte} {v0 v1 v2 v3 : BitVec 6} (h0 : b64Val c0 = some v0)
    (h1 : b64Val c1 = some v1) (h2 : b64Val c2 = some v2) (h3 : b64Val c3 = some v3) :
    quantumBytes c0 c1 c2 c3 = some (quantumOctets v0 v1 v2 v3) := by
  rw [quantumBytes, quantumPads_of_ne (ne_pad_of_b64Val h3), h0, h1, h2, h3]
  rfl

theorem quantumBytes_onePad {c2 : Byte} {v2 : BitVec 6} (h2 : b64Val c2 = some v2) (c0 c1 : Byte) :
    quantumBytes c0 c1 c2 b64Pad =
      (b64Val c0).bind fun v0 => (b64Val c1).map fun v1 => (quantumOctets v0 v1 v2 0).take 2 := by
  rw [quantumBytes, quantumPads_one (ne_pad_of_b64Val h2), h2]
  cases b64Val c0 <;> cases b64Val c1 <;> rfl

theorem quantumBytes_twoPads {c1 : Byte} {v1 : BitVec 6} (h1 : b64Val c1 = some v1) (c0 : Byte) :
    quantumBytes c0 c1 b64Pad b64Pad = (b64Val c0).map fun v0 => (quantumOctets v0 v1 0 0).take 1 := by
  rw [quantumBytes, quantumPads_two (ne_pad_of_b64Val h1), h1]
  cases b64Val c0 <;> rfl

/-- Every quantum that gives bytes. -/
theorem quantumBytes_cases {c0 c1 c2 c3 : Byte} {d : Bytes} (h : quantumBytes c0 c1 c2 c3 = some d) :
    ∃ v0 v1, b64Val c0 = some v0 ∧ b64Val c1 = some v1 ∧
      ((∃ v2 v3, b64Val c2 = some v2 ∧ b64Val c3 = some v3 ∧ d = quantumOctets v0 v1 v2 v3) ∨
        (∃ v2, b64Val c2 = some v2 ∧ c3 = b64Pad ∧ d = (quantumOctets v0 v1 v2 0).take 2) ∨
        c2 = b64Pad ∧ c3 = b64Pad ∧ d = (quantumOctets v0 v1 0 0).take 1) := by
  unfold quantumBytes at h
  split at h
  case h_1 v0 v1 v2 v3 _ h0 h1 h2 h3 =>
    cases h
    exact ⟨v0, v1, h0, h1, .inl ⟨v2, v3, h2, h3, rfl⟩⟩
  case h_2 v0 v1 v2 hp h0 h1 h2 =>
    cases h
    exact ⟨v0, v1, h0, h1, .inr (.inl ⟨v2, h2, fourth_eq_pad (hp.trans_ne (by decide)), rfl⟩)⟩
  case h_3 v0 v1 hp h0 h1 =>
    cases h
    obtain rfl : c3 = b64Pad := fourth_eq_pad (hp.trans_ne (by decide))
    exact ⟨v0, v1, h0, h1, .inr (.inr ⟨third_eq_pad (hp.trans_ne (by decide)), rfl, rfl⟩)⟩
  case h_4 => cases h

/-! What decodes to what (R105). -/

/-- The text is quanta of alphabet characters, of which the last may end in one or two `'='`; and the bytes are theirs. -/
inductive DecodesTo : Bytes → Bytes → Prop
  | nil : DecodesTo [] []
  | twoPads {c0 c1 : Byte} {v0 v1 : BitVec 6} (h0 : b64Val c0 = some v0) (h1 : b64Val c1 = some v1) :
      DecodesTo [c0, c1, b64Pad, b64Pad] ((quantumOctets v0 v1 0 0).take 1)
  | onePad {c0 c1 c2 : Byte} {v0 v1 v2 : BitVec 6} (h0 : b64Val c0 = some v0) (h1 : b64Val c1 = some v1)
      (h2 : b64Val c2 = some v2) : DecodesTo [c0, c1, c2, b64Pad] ((quantumOctets v0 v1 v2 0).take 2)
  | quantum {c0 c1 c2 c3 : Byte} {v0 v1 v2 v3 : BitVec 6} {rest ds : Bytes} (h0 : b64Val c0 = some v0)
      (h1 : b64Val c1 = some v1) (h2 : b64Val c2 = some v2) (h3 : b64Val c3 = some v3) (hrest : DecodesTo rest ds) :
      DecodesTo (c0 :: c1 :: c2 :: c3 :: rest) (quantumOctets v0 v1 v2 v3 ++ ds)

theorem b64Decode_quantum (c0 c1 c2 c3 : Byte) : b64Decode [c0, c1, c2, c3] = quantumBytes c0 c1 c2 c3 := by
  rw [b64Decode, if_neg (fun h => h.2 rfl)]
  cases quantumBytes c0 c1 c2 c3 <;> simp [b64Decode]

theorem b64Decode_of_decodesTo {t d : Bytes} (h : DecodesTo t d) : b64Decode t = some d := by
  induction h with
  | nil => rfl
  | twoPads h0 h1 => rw [b64Decode_quantum, quantumBytes_twoPads h1, h0]; rfl
  | onePad h0 h1 h2 => rw [b64Decode_quantum, quantumBytes_onePad h2, h0, h1]; rfl
  | quantum h0 h1 h2 h3 _ ih =>
    rw [b64Decode, if_neg (fun h => h.1 (quantumPads_of_ne (ne_pad_of_b64Val h3) _ _ _)), quantumBytes_full h0 h1 h2 h3, ih]

theorem decodesTo_cons {c0 c1 c2 c3 : Byte} {rest d ds : Bytes} (hlast : quantumPads c0 c1 c2 c3 = 0 ∨ rest = [])
    (hq : quantumBytes c0 c1 c2 c3 = some d) (hrest : DecodesTo rest ds) :
    DecodesTo (c0 :: c1 :: c2 :: c3 :: rest) (d ++ ds) := by
  obtain ⟨v0, v1, h0, h1, ⟨v2, v3, h2, h3, rfl⟩ | ⟨v2, h2, rfl, rfl⟩ | ⟨rfl, rfl, rfl⟩⟩ := quantumBytes_cases hq
  · exact .quantum h0 h1 h2 h3 hrest
  · obtain rfl := hlast.resolve_left (by rw [quantumPads_one (ne_pad_of_b64Val h2)]; decide)
    cases hrest
    exact .onePad h0 h1 h2
  · obtain rfl := hlast.resolve_left (by rw [quantumPads_two (ne_pad_of_b64Val h1)]; decide)
    cases hrest
    exact .twoPads h0 h1

theorem decodesTo_of_b64Decode {t d : Bytes} (h : b64Decode t = some d) : DecodesTo t d := by
  induction t using b64Decode.induct generalizing d with
  | case1 => cases h; exact .nil
  | case2 c0 c1 c2 c3 rest hbad => rw [b64Decode, if_pos hbad] at h; cases h
  | case3 c0 c1 c2 c3 rest hlast q ds hds hq ih =>
    rw [b64Decode, if_neg hlast, hq, hds] at h
    cases h
    exact decodesTo_cons (by tauto) hq (ih hds)
  | case4 c0 c1 c2 c3 rest hlast hnone ih =>
    rw [b64Decode, if_neg hlast] at h
    split at h
    · next hq hds => exact (hnone _ _ hq hds).elim
    · cases h
  | case5 t hnil hquantum =>
    rw [b64Decode.eq_3 t hnil hquantum] at h
    cases h

theorem b64Decode_eq_some_iff {t d : Bytes} : b64Decode t = some d ↔ DecodesTo t d :=
  ⟨decodesTo_of_b64Decode, b64Decode_of_decodesTo⟩

theorem b64Decode_isSome_iff {t : Bytes} : (b64Decode t).isSome = true ↔ ∃ d, DecodesTo t d := by
  simp only [Option.isSome_iff_exists, b64Decode_eq_some_iff]

/-! The texts that decode. -/

theorem DecodesTo.length_text {t d : Bytes} (h : DecodesTo t d) : t.length = 4 * ((d.length + 2) / 3) := by
  induction h with
  | nil => rfl
  | twoPads => simp
  | onePad => simp
  | quantum _ _ _ _ _ ih => simp [ih]; omega

theorem count_pad_cons {c : Byte} {v : BitVec 6} (h : b64Val c = some v) (t : Bytes) :
    (c :: t).count b64Pad = t.count b64Pad := List.count_cons_of_ne (ne_pad_of_b64Val h)

theorem DecodesTo.length_bytes {t d : Bytes} (h : DecodesTo t d) : d.length + t.count b64Pad = 3 * (t.length / 4) := by
  induction h with
  | nil => rfl
  | twoPads h0 h1 => rw [count_pad_cons h0, count_pad_cons h1]; simp
  | onePad h0 h1 h2 => rw [count_pad_cons h0, count_pad_cons h1, count_pad_cons h2]; simp
  | quantum h0 h1 h2 h3 _ ih =>
    rw [count_pad_cons h0, count_pad_cons h1, count_pad_cons h2, count_pad_cons h3, List.length_append, Nat.add_assoc, ih]
    simp
    omega

/-- Alphabet characters, then at most two `'='`. -/
def PaddedText (t : Bytes) : Prop :=
  ∃ (body : Bytes) (p : Nat), p ≤ 2 ∧ t = body ++ List.replicate p b64Pad ∧ ∀ c ∈ body, (b64Val c).isSome = true

theorem DecodesTo.paddedText {t d : Bytes} (h : DecodesTo t d) : PaddedText t := by
  induction h with
  | nil => exact ⟨[], 0, by simp⟩
  | @twoPads c0 c1 _ _ h0 h1 => exact ⟨[c0, c1], 2, by simp [h0, h1]⟩
  | @onePad c0 c1 c2 _ _ _ h0 h1 h2 => exact ⟨[c0, c1, c2], 1, by simp [h0, h1, h2]⟩
  | @quantum c0 c1 c2 c3 _ _ _ _ _ _ h0 h1 h2 h3 _ ih =>
    obtain ⟨body, p, hp, rfl, hbody⟩ := ih
    exact ⟨c0 :: c1 :: c2 :: c3 :: body, p, hp, rfl, by simpa [h0, h1, h2, h3] using hbody⟩

theorem exists_decodesTo_append_pads {p : Nat} (hp : p ≤ 2) :
    ∀ body : Bytes, (body.length + p) % 4 = 0 → (∀ c ∈ body, (b64Val c).isSome = true) →
      ∃ d, DecodesTo (body ++ List.replicate p b64Pad) d
  | [], hlen, _ => by
    obtain rfl : p = 0 := by simp only [List.length] at hlen; omega
    exact ⟨_, .nil⟩
  | [_], hlen, _ => by simp only [List.length] at hlen; omega
  | [c0, c1], hlen, hbody => by
    obtain rfl : p = 2 := by simp only [List.length] at hlen; omega
    simp only [List.forall_mem_cons, Option.isSome_iff_exists] at hbody
    obtain ⟨⟨v0, h0⟩, ⟨v1, h1⟩, -⟩ := hbody
    exact ⟨_, .twoPads h0 h1⟩
  | [c0, c1, c2], hlen, hbody => by
    obtain rfl : p = 1 := by simp only [List.length] at hlen; omega
    simp only [List.forall_mem_cons, Option.isSome_iff_exists] at hbody
    obtain ⟨⟨v0, h0⟩, ⟨v1, h1⟩, ⟨v2, h2⟩, -⟩ := hbody
    exact ⟨_, .onePad h0 h1 h2⟩
  | c0 :: c1 :: c2 :: c3 :: rest, hlen, hbody => by
    obtain ⟨hfour, hrest⟩ := List.forall_mem_append.1 (show ∀ c ∈ [c0, c1, c2, c3] ++ rest, _ from hbody)
    simp only [List.forall_mem_cons, Option.isSome_iff_exists] at hfour
    obtain ⟨⟨v0, h0⟩, ⟨v1, h1⟩, ⟨v2, h2⟩, ⟨v3, h3⟩, -⟩ := hfour
    obtain ⟨ds, hds⟩ := exists_decodesTo_append_pads hp rest (by simp only [List.length] at hlen; omega) hrest
    exact ⟨_, .quantum h0 h1 h2 h3 hds⟩

theorem exists_decodesTo_iff {t : Bytes} : (∃ d, DecodesTo t d) ↔ t.length % 4 = 0 ∧ PaddedText t := by
  constructor
  · rintro ⟨d, h⟩
    exact ⟨by have := h.length_text; omega, h.paddedText⟩
  · rintro ⟨hlen, body, p, hp, rfl, hbody⟩
    exact exists_decodesTo_append_pads hp body (by simpa using hlen) hbody

theorem DecodesTo.not_mem {t d : Bytes} {c : Byte} (h : DecodesTo t d) (hval : b64Val c = none) (hpad : c ≠ b64Pad) :
    c ∉ t := by
  obtain ⟨body, p, -, rfl, hbody⟩ := h.paddedText
  rw [List.mem_append, List.mem_replicate]
  rintro (hc | ⟨-, rfl⟩)
  · simpa [hval] using hbody c hc
  · exact hpad rfl

theorem b64Decode_eq_none {t : Bytes} (h : t.length % 4 ≠ 0) : b64Decode t = none := by
  rw [Option.eq_none_iff_forall_ne_some]
  intro d hd
  have := (b64Decode_eq_some_iff.1 hd).length_text
  omega

/-- Whatever text stands before it, a last quantum counts by its bytes alone. -/
theorem b64Decode_append_congr {q q' : Bytes} (hlen : q.length = 4) (hlen' : q'.length = 4) (h : b64Decode q = b64Decode q') :
    ∀ body : Bytes, b64Decode (body ++ q) = b64Decode (body ++ q')
  | [] => h
  | [_] | [_, _] | [_, _, _] => by rw [b64Decode_eq_none, b64Decode_eq_none] <;> simp [hlen, hlen']
  | c0 :: c1 :: c2 :: c3 :: rest => by
    have hq : q ≠ [] := List.ne_nil_of_length_eq_add_one hlen
    have hq' : q' ≠ [] := List.ne_nil_of_length_eq_add_one hlen'
    simp [b64Decode, hq, hq', b64Decode_append_congr hlen hlen' h rest]

/-! The encoder's texts (R104). -/

theorem decodesTo_b64Encode (d : Bytes) : DecodesTo (b64Encode d) d := by
  induction d using b64Encode.induct with
  | case1 => exact .nil
  | case2 a g0 g1 g2 g3 hg =>
    have hbytes : (quantumOctets g0 g1 0 0).take 1 = [a] := by
      rw [quantumOctets_take_one rfl g0 0 0 g2 g3, quantumOctets_of_quantumGroups hg]
      rfl
    rw [b64Encode, hg, ← hbytes]
    exact .twoPads (b64Val_b64Sym g0) (b64Val_b64Sym g1)
  | case3 a b g0 g1 g2 g3 hg =>
    have hbytes : (quantumOctets g0 g1 g2 0).take 2 = [a, b] := by
      rw [quantumOctets_take_two rfl g0 g1 0 g3, quantumOctets_of_quantumGroups hg]
      rfl
    rw [b64Encode, hg, ← hbytes]
    exact .onePad (b64Val_b64Sym g0) (b64Val_b64Sym g1) (b64Val_b64Sym g2)
  | case4 a b c rest g0 g1 g2 g3 hg ih =>
    have hbytes : quantumOctets g0 g1 g2 g3 ++ rest = a :: b :: c :: rest := by
      rw [quantumOctets_of_quantumGroups hg]
      rfl
    rw [b64Encode, hg, ← hbytes]
    exact .quantum (b64Val_b64Sym g0) (b64Val_b64Sym g1) (b64Val_b64Sym g2) (b64Val_b64Sym g3) ih

end Sys2Proof.Machine

namespace Sys2Proof.Proofs

open Sys2Proof.Machine

/-- Settles O7: the encoder's text is one that decodes to its bytes, and R105's acceptance gives its length and its characters. -/
theorem baseSixtyFourReadsBack : Obligations.BaseSixtyFourReadsBack := fun d =>
  have h := decodesTo_b64Encode d
  ⟨b64Decode_of_decodesTo h, h.length_text, h.not_mem (by decide) (by decide), h.not_mem (by decide) (by decide)⟩

/-- Settles O8, three bytes at a time. -/
theorem quantumAlignment : Obligations.QuantumAlignment := by
  intro a b hlen
  induction a using b64Encode.induct with
  | case1 => rfl
  | case2 => cases hlen
  | case3 => cases hlen
  | case4 x y z rest _ _ _ _ _ ih =>
    have hrest := ih (by simp only [List.length_cons] at hlen; omega)
    simp [b64Encode, hrest]

/-- Settles O9: acceptance and length by what decodes to what; and the bits that padding drops are in no byte of the last quantum,
which counts by its bytes alone. -/
theorem baseSixtyFourAcceptsExactly : Obligations.BaseSixtyFourAcceptsExactly := by
  refine ⟨fun t => ?accepted, fun body d p _ hbody hd => ?length, fun body c0 c1 c1' v v' hv hv' hbits => ?twoPads,
    fun body c0 c1 c2 c2' v v' hv hv' hbits => ?onePad⟩
  case accepted =>
    simp only [← b64Val_isSome_iff]
    exact b64Decode_isSome_iff.trans exists_decodesTo_iff
  case length =>
    have h := (b64Decode_eq_some_iff.1 hd).length_bytes
    rw [List.count_append, List.count_eq_zero_of_not_mem hbody, List.count_replicate_self] at h
    simpa using h
  case twoPads =>
    refine b64Decode_append_congr rfl rfl ?_ body
    rw [b64Decode_quantum, b64Decode_quantum, quantumBytes_twoPads hv, quantumBytes_twoPads hv']
    simp only [quantumOctets_take_one hbits _ 0 0 0 0]
  case onePad =>
    refine b64Decode_append_congr rfl rfl ?_ body
    rw [b64Decode_quantum, b64Decode_quantum, quantumBytes_onePad hv, quantumBytes_onePad hv']
    simp only [quantumOctets_take_two hbits _ _ 0 0]

end Sys2Proof.Proofs
end

section
/-! PROOFS. The frame encoder (41_frame_encoder.md): when it answers, how it cuts the checksummed buffer, and the bytes of a line. -/

namespace Sys2Proof.Machine

/-! The encoder's answer (R130, R139). -/

theorem encodeMessage_of_le {m : Bytes} (h : m.length ≤ 65533) (init : Word16) :
    ∃ lines, encodeMessage init m = .ok lines := by
  obtain ⟨conts, hconts⟩ := contLines_ok ((checksum init m).drop 91).length ((checksum init m).drop 91)
  exact ⟨_, encodeMessage_ok_iff.2 ⟨h, conts, hconts, rfl⟩⟩

theorem encodeMessage_of_gt {m : Bytes} (h : 65533 < m.length) (init : Word16) : encodeMessage init m = .error .encodeRange :=
  if_pos h

/-- There is always a Start line (R133). -/
theorem ne_nil_of_encodeMessage {init : Word16} {m : Bytes} {lines : List Bytes} (h : encodeMessage init m = .ok lines) :
    lines ≠ [] := by
  obtain ⟨-, conts, -, rfl⟩ := encodeMessage_ok_iff.1 h
  exact List.cons_ne_nil _ _

/-! A line's bytes (30_encoding.md R70–R72). -/

/-- A line: its two marker bytes, the text of its raw bytes, and the newline. -/
def frameLine (m0 m1 : Byte) (raw : Bytes) : Bytes := m0 :: m1 :: (b64Encode raw ++ [newline])

theorem startLine_eq_frameLine (buf : Bytes) : startLine buf = frameLine 0x06 0x09 (be16Nat buf.length ++ buf.take 91) := rfl

theorem contLine_eq_frameLine {chunk : Bytes} (h : chunk ≠ []) : contLine chunk = .ok (frameLine 0x04 0x14 chunk) := if_neg h

theorem take_two_frameLine (m0 m1 : Byte) (raw : Bytes) : (frameLine m0 m1 raw).take 2 = [m0, m1] := rfl

theorem length_frameLine (m0 m1 : Byte) (raw : Bytes) : (frameLine m0 m1 raw).length = 4 * ((raw.length + 2) / 3) + 3 := by
  simp [frameLine, (decodesTo_b64Encode raw).length_text]

/-- What R135 and R137 say of a line: at most 127 bytes, ended by its only `0A`, and without `0D`. -/
def WireLine (line : Bytes) : Prop :=
  line.length ≤ 127 ∧ line.getLast? = some 0x0A ∧ line.count 0x0A = 1 ∧ (0x0D : Byte) ∉ line

/-- The budgets of 91 + 2 and 93 raw bytes keep a line to 127 bytes, and base64 text has neither `0A` nor `0D` (R135). -/
theorem wireLine_frameLine {m0 m1 : Byte} {raw : Bytes} (hraw : raw.length ≤ 93) (h0A : (0x0A : Byte) ∉ [m0, m1])
    (h0D : (0x0D : Byte) ∉ [m0, m1]) : WireLine (frameLine m0 m1 raw) := by
  have htext : (0x0A : Byte) ∉ b64Encode raw ∧ (0x0D : Byte) ∉ b64Encode raw :=
    ⟨(decodesTo_b64Encode raw).not_mem (by decide) (by decide), (decodesTo_b64Encode raw).not_mem (by decide) (by decide)⟩
  have hframe : frameLine m0 m1 raw = ([m0, m1] ++ b64Encode raw) ++ [newline] := by simp [frameLine]
  refine ⟨by rw [length_frameLine]; omega, by rw [hframe, List.getLast?_concat]; rfl, ?_, ?_⟩
  · rw [hframe, List.count_append, List.count_append, List.count_eq_zero.2 h0A, List.count_eq_zero.2 htext.1]
    decide
  · rw [hframe]
    simp only [List.mem_append, h0D, htext.2, false_or]
    decide

/-! The Continuation lines (R134). -/

/-- The Continuation lines carry the rest of the buffer in order, each a chunk of 1 to 93 bytes, in as few lines as that takes. -/
theorem contLines_chunks {fuel : Nat} {rest : Bytes} {lines : List Bytes} (hfuel : rest.length ≤ fuel)
    (h : contLines fuel rest = .ok lines) :
    ∃ chunks : List Bytes, lines = chunks.map (frameLine 0x04 0x14) ∧ chunks.flatten = rest ∧
      chunks.length = (rest.length + 92) / 93 ∧ ∀ chunk ∈ chunks, chunk ≠ [] ∧ chunk.length ≤ 93 := by
  induction fuel generalizing rest lines with
  | zero =>
    obtain rfl := List.eq_nil_of_length_eq_zero (Nat.le_zero.1 hfuel)
    cases h
    exact ⟨[], by simp⟩
  | succ fuel ih =>
    by_cases hr : rest = []
    · subst hr
      cases h
      exact ⟨[], by simp⟩
    · have hpos : 0 < rest.length := List.length_pos_iff.2 hr
      have htake : rest.take 93 ≠ [] := by simpa using hr
      obtain ⟨more, hmore⟩ := contLines_ok fuel (rest.drop 93)
      simp only [contLines, hr, if_false, contLine_eq_frameLine htake, hmore, Except.ok.injEq] at h
      obtain ⟨chunks, rfl, hflat, hlen, hchunks⟩ := ih (by rw [List.length_drop]; omega) hmore
      refine ⟨rest.take 93 :: chunks, h.symm, ?_, ?_, ?_⟩
      · rw [List.flatten_cons, hflat, List.take_append_drop]
      · rw [List.length_cons, hlen, List.length_drop]
        omega
      · exact List.forall_mem_cons.2 ⟨⟨htake, List.length_take_le 93 rest⟩, hchunks⟩

end Sys2Proof.Machine

namespace Sys2Proof.Proofs

open Sys2Proof.Machine

/-- Settles O10. -/
theorem encodeIsTotalToItsBound : Obligations.EncodeIsTotalToItsBound := fun init _ =>
  ⟨fun hm => (encodeMessage_of_le hm init).imp fun _ h => ⟨h, ne_nil_of_encodeMessage h⟩, fun hm => encodeMessage_of_gt hm init⟩

/-- Settles O11: one Start line, and a Continuation line for every 93 bytes of what it leaves of the checksummed buffer. -/
theorem linesOfEveryMessage : Obligations.LinesOfEveryMessage := by
  intro init m lines h
  obtain ⟨-, conts, hconts, rfl⟩ := encodeMessage_ok_iff.1 h
  obtain ⟨chunks, rfl, -, hlen, hchunks⟩ := contLines_chunks le_rfl hconts
  rw [startLine_eq_frameLine]
  refine ⟨?count, ?bytes, ?start, ?continuation⟩
  case count =>
    have hbuf : (checksum init m).length = m.length + 2 := by simp [checksum, be16]
    rw [List.length_cons, List.length_map, hlen, List.length_drop, hbuf]
    omega
  case bytes =>
    refine List.forall_mem_cons.2 ⟨wireLine_frameLine ?_ (by decide) (by decide), List.forall_mem_map.2 fun chunk hc =>
      wireLine_frameLine (hchunks chunk hc).2 (by decide) (by decide)⟩
    have htake := List.length_take_le 91 (checksum init m)
    simp only [be16Nat, be16, List.length_append, List.length_cons, List.length_nil]
    omega
  case start => simp [take_two_frameLine]
  case continuation => simp [take_two_frameLine]

end Sys2Proof.Proofs
end

section
/-! PROOFS. The request of a segment (43_message_codec.md, 44_upload_engine.md R213): when it is built, its length under the test codec,
and what a step can fault with (60_exceptions.md R257). -/

namespace Sys2Proof.Machine

/-! Request building as the message it builds. -/

theorem buildHeader_eq (seq : BitVec 8) (group : Word16) (id : Byte) :
    buildHeader seq group id = [0x02, 0x00, 0x00, 0x00] ++ be16 group ++ [seq, id] := by
  simp [buildHeader, headerBytes, be16]

/-- A request is built unless its payload passes what `len` can say (43_message_codec.md R181). -/
theorem buildRequest_eq (codec : Config.Codec) (seq : BitVec 8) (group : Word16) (id : Byte)
    (fields : List (Config.Key × Config.Value)) :
    buildRequest codec seq group id fields =
      if 65535 < (requestPayload codec seq group id fields).length then .error .encodeRange
      else .ok (requestMessage codec seq group id fields) := by
  simp only [buildRequest, buildHeader_eq]
  rfl

theorem length_requestMessage (codec : Config.Codec) (seq : BitVec 8) (group : Word16) (id : Byte)
    (fields : List (Config.Key × Config.Value)) :
    (requestMessage codec seq group id fields).length = (requestPayload codec seq group id fields).length + 8 := by
  simp [requestMessage, be16Nat, be16]

theorem segmentFields_readRange (s : State) (seg : Segment) :
    segmentFields s.size seg (Memory.readRange s.img seg.off seg.len) = uploadFields s seg := rfl

/-- The request of a segment in the image is built by encoding its message (44_upload_engine.md R213). -/
theorem buildSegment_of_le {s : State} {seg : Segment} (hin : seg.off + seg.len ≤ s.size)
    (h : (segmentMessage s seg).length ≤ 65533) :
    ∃ lines, encodeMessage s.crcInit (segmentMessage s seg) = .ok lines ∧ buildSegment s seg = .ok lines.flatten := by
  obtain ⟨lines, hlines⟩ := encodeMessage_of_le h s.crcInit
  refine ⟨lines, hlines, buildSegment_ok_iff.2 ⟨hin, _, lines, ?_, hlines, rfl⟩⟩
  rw [segmentMessage, length_requestMessage] at h
  rw [segmentFields_readRange, buildRequest_eq, if_neg (by omega)]
  rfl

/-- An oversized request is a fault of the request's building or of its encoding, the same for both (60_exceptions.md R257). -/
theorem buildSegment_of_gt {s : State} {seg : Segment} (hin : seg.off + seg.len ≤ s.size)
    (h : 65533 < (segmentMessage s seg).length) : buildSegment s seg = .error .encodeRange := by
  cases hb : buildSegment s seg with
  | error f => rw [buildSegment_error hin hb]
  | ok wire =>
    obtain ⟨-, m, lines, hm, hlines, -⟩ := buildSegment_ok_iff.1 hb
    have hmsg : m = segmentMessage s seg := by
      rw [segmentFields_readRange, buildRequest_eq] at hm
      split at hm
      · cases hm
      · exact (Except.ok.inj hm).symm
    rw [hmsg, encodeMessage_of_gt h] at hlines
    cases hlines

/-- A build that faults is of an oversized request (44_upload_engine.md R213). -/
theorem lt_length_of_buildSegment_error {s : State} {seg : Segment} {f : Fault} (hin : seg.off + seg.len ≤ s.size)
    (h : buildSegment s seg = .error f) : 65533 < (segmentMessage s seg).length := by
  by_contra hle
  obtain ⟨lines, -, hb⟩ := buildSegment_of_le hin (not_lt.1 hle)
  rw [hb] at h
  cases h

/-! Lengths under the test codec (92_eei_decisions.md D15). -/

theorem length_beBytes (k n : Nat) : (beBytes k n).length = k := by
  induction k with
  | zero => rfl
  | succ k ih => rw [beBytes, List.length_cons, ih]

/-- A head that D15 defines takes at most 9 bytes. -/
theorem length_cborHead_le {n : Nat} (h : n < 2 ^ 64) (major : Nat) : (cborHead major n).length ≤ 9 := by
  simp only [cborHead, h, if_true]
  repeat' split
  all_goals simp [length_beBytes]

/-- An integer that has a head, or a byte string of at most `k` bytes. -/
def valueWithin (k : Nat) : Config.Value → Prop
  | .int i => i.natAbs < 2 ^ 64
  | .bytes b | .hdrEcho b => b.length ≤ k

theorem length_cborValue_le {k : Nat} (hk : k < 2 ^ 64) {v : Config.Value} (h : valueWithin k v) :
    (cborValue v).length ≤ k + 9 := by
  match v, h with
  | .int (.ofNat n), h => exact (length_cborHead_le h 0).trans (Nat.le_add_left 9 k)
  | .int (.negSucc n), h => exact (length_cborHead_le (Nat.lt_of_succ_lt h) 1).trans (Nat.le_add_left 9 k)
  | .bytes b, h | .hdrEcho b, h =>
    have hhead := length_cborHead_le (Nat.lt_of_le_of_lt h hk) 2
    simp only [valueWithin] at h
    simp only [cborValue, List.length_append]
    omega

/-- The pairs of a request: every key of the FCU has at most 4 bytes. -/
def pairWithin (k : Nat) (kv : Config.Key × Config.Value) : Prop := kv.1.length ≤ 4 ∧ valueWithin k kv.2

theorem length_cborPair_le {k : Nat} (hk : k < 2 ^ 64) {kv : Config.Key × Config.Value} (h : pairWithin k kv) :
    (cborPair kv).length ≤ k + 22 := by
  obtain ⟨hkey, hv⟩ := h
  have hhead := length_cborHead_le (show kv.1.length < 2 ^ 64 by omega) 3
  have hvalue := length_cborValue_le hk hv
  simp only [cborPair, List.length_append]
  omega

theorem length_cborEnc_le {k : Nat} (hk : k < 2 ^ 64) {kvs : List (Config.Key × Config.Value)} (hlen : kvs.length < 2 ^ 64)
    (h : ∀ kv ∈ kvs, pairWithin k kv) : (cborEnc kvs).length ≤ 9 + kvs.length * (k + 22) := by
  have hpairs : (kvs.flatMap cborPair).length ≤ kvs.length * (k + 22) := by
    rw [List.length_flatMap]
    refine (List.sum_le_card_nsmul _ (k + 22) (List.forall_mem_map.2 fun kv hkv => length_cborPair_le hk (h kv hkv))).trans ?_
    rw [List.length_map, smul_eq_mul]
  rw [cborEnc, List.length_append]
  exact Nat.add_le_add (length_cborHead_le hlen 5) hpairs

theorem uploadFields_within {s : State} {seg : Segment} {k : Nat} (hsize : s.size < 2 ^ 64) (hoff : seg.off ≤ s.size)
    (hlen : seg.len ≤ k) : (uploadFields s seg).length ≤ 4 ∧ ∀ kv ∈ uploadFields s seg, pairWithin k kv := by
  cases hk : seg.kind <;> simp [uploadFields, hk, pairWithin, valueWithin, keySha, keyOff, keyLen, keyData] <;> omega

/-- Under the test codec the request of a segment that keeps to the greatest EFF_CHUNK is far from the bound (R130, R235). -/
theorem length_segmentMessage_le {s : State} {seg : Segment} (hcodec : s.codec = .cbor) (hsize : s.size < 2 ^ 64)
    (hoff : seg.off ≤ s.size) (hlen : seg.len ≤ 1520) : (segmentMessage s seg).length ≤ 65533 := by
  obtain ⟨hcount, hfields⟩ := uploadFields_within hsize hoff hlen
  have hecho (seq : BitVec 8) (group : Word16) (id : Byte) :
      pairWithin 1520 (keyHdr, .hdrEcho ([0x02, 0x00, 0x00, 0x00] ++ be16 group ++ [seq, id])) := by
    simp [pairWithin, valueWithin, keyHdr, be16]
  have hpayload := length_cborEnc_le (by decide) (by rw [List.length_cons]; omega)
    (List.forall_mem_cons.2 ⟨hecho s.seq 1 1, hfields⟩)
  rw [List.length_cons] at hpayload
  rw [segmentMessage, length_requestMessage, requestPayload, hcodec, encPayload]
  omega

/-! PrepareFirst (44_upload_engine.md R212). -/

theorem firstSegment_inImage (size : Nat) : (firstSegment size).off + (firstSegment size).len ≤ size := by
  show 0 + min 32 size ≤ size
  omega

theorem prepareFirst_of_ok {s : State} {lines : Bytes} (h : buildSegment s (firstSegment s.size) = .ok lines) :
    prepareFirst s = .next { s with
      off := 0, cur := firstSegment s.size, tmo := .first, retry := 0, next := none, nextLines := none, curLines := lines,
      seq := s.seq + 1, engine := .sendAndPrepareNext, emits := s.emits ++ [.write lines] } := by
  simp only [prepareFirst]
  split
  · next hb => cases hb.symm.trans h
  · next hb => cases hb.symm.trans h; rfl

theorem prepareFirst_of_error {s : State} {f : Fault} (h : buildSegment s (firstSegment s.size) = .error f) :
    prepareFirst s = .fault f := by
  simp only [prepareFirst]
  split
  · next hb => cases hb.symm.trans h; rfl
  · next hb => cases hb.symm.trans h

theorem step_of_prepareFirst {s : State} (hq : quiet s) (he : s.engine = .prepareFirst) : step s = prepareFirst s := by
  obtain ⟨hr, hem, hs⟩ := hq
  simp only [step_of_running hr, pending, hem, hs, pendingEngine, he, stepPending]

/-! The engine's builds fault on an oversized request alone. -/

theorem prepareFirst_oversized {s : State} {f : Fault} (h : prepareFirst s = .fault f) :
    65533 < (segmentMessage s (firstSegment s.size)).length := by
  simp only [prepareFirst] at h
  split at h
  · next hb => exact lt_length_of_buildSegment_error (firstSegment_inImage s.size) hb
  · cases h

theorem retransmit_oversized {s : State} {f : Fault} (hin : s.cur.off + s.cur.len ≤ s.size) (h : retransmit s = .fault f) :
    65533 < (segmentMessage s s.cur).length := by
  simp only [retransmit] at h
  split at h
  · cases h
  · split at h
    · next hb => exact lt_length_of_buildSegment_error hin hb
    · cases h

/-- WR_OK answers an awaited WRITE, and builds the segment after CUR (44_upload_engine.md R216). -/
theorem execWrOk_oversized {s : State} {f : Fault} (h : execWrOk s = .fault f) :
    s.outstanding = some .write ∧
      ∃ n, nextSegment s.size s.effChunk s.cur = some n ∧ 65533 < (segmentMessage s n).length := by
  simp only [execWrOk] at h
  split at h
  · cases h
  · next ho =>
    split at h
    · cases h
    · next n hn =>
      split at h
      · next hb => exact ⟨not_not.1 ho, n, hn, lt_length_of_buildSegment_error (nextSegment_inImage hn) hb⟩
      · cases h

/-! Where a step can fault. -/

theorem execStart_illegalChunk {size : Nat} {img : Bytes} {chunk tFirst tNext : Nat} {crcInit : Word16} {retries : Option Nat}
    {strict : Bool} {s : State} {f : Fault} (h : execStart size img chunk tFirst tNext crcInit retries strict s = .fault f) :
    chunk < 64 ∨ 2048 < chunk := by
  unfold execStart at h
  split at h
  · cases h
  · split at h
    · cases h
    · split at h
      · next hchunk => exact hchunk
      · cases h

/-- The instructions that fault (60_exceptions.md R257): a START with an illegal chunk size, a WR_OK whose next segment makes an
oversized request, and request-builder calls. -/
theorem exec_fault_cases {i : Instr} {s : State} {f : Fault} (h : exec i s = .fault f) :
    (∃ size img chunk tFirst tNext crcInit retries strict,
      i = .start size img chunk tFirst tNext crcInit retries strict ∧ (chunk < 64 ∨ 2048 < chunk) ∧ f = .configRange) ∨
    (i = .wrOk ∧ s.outstanding = some .write ∧
      ∃ n, nextSegment s.size s.effChunk s.cur = some n ∧ 65533 < (segmentMessage s n).length) ∨
    i.layer = .request := by
  cases i with
  | start => exact .inl ⟨_, _, _, _, _, _, _, _, rfl, execStart_illegalChunk h, execStart_fault h⟩
  | wrOk => exact .inr (.inl ⟨rfl, execWrOk_oversized h⟩)
  | reqEchoCtrl | reqReset | reqUploadSeg0 | reqUploadSegN => exact .inr (.inr rfl)
  | lineStart | lineCont =>
    simp only [exec, execLineStart, execLineCont] at h
    repeat' split at h
    all_goals cases h
  | wrErr | rdData | rdTimeout | rdErr =>
    simp only [exec, execWrErr, execRdData, execRdTimeout, execRdErr] at h
    split at h <;> cases h
  | lineNoise | lineOther | write | read | progress | result | msgReadResponse | msgWriteResponse | msgNonresponse => cases h

theorem exec_received_ne_fault {i : Instr} (hi : i.layer = .line ∨ i.layer = .message) (s : State) (f : Fault) :
    exec i s ≠ .fault f := by
  intro h
  rcases exec_fault_cases h with ⟨_, _, _, _, _, _, _, _, rfl, -⟩ | ⟨rfl, -⟩ | hr
  · simp [Instr.layer] at hi
  · simp [Instr.layer] at hi
  · simp [hr] at hi

/-- What the input in store does where it faults: it runs a call where one may run, or else an event. -/
theorem pendingInput_fault {s : State} {f : Fault} (h : stepPending (pendingInput s) s = .fault f) :
    (¬ callsWait s ∧ s.calls ≠ []) ∨ stepEvent (inputBytes s) s = .fault f := by
  by_cases hcalls : s.calls = [] ∨ callsWait s
  · by_cases hb : inputBytes s = []
    · rw [pendingInput_of_none hcalls hb] at h
      cases h
    · rw [pendingInput_of_event hcalls hb] at h
      exact .inr h
  · exact .inl (not_or.1 hcalls).symm

/-- A step that faults is one of the engine's own builds, a call, or an event. -/
theorem step_fault_cases {s : State} {f : Fault} (h : step s = .fault f) :
    (s.engine = .prepareFirst ∧ prepareFirst s = .fault f) ∨ (s.engine = .retransmit ∧ retransmit s = .fault f) ∨
      (¬ callsWait s ∧ s.calls ≠ []) ∨ stepEvent (inputBytes s) s = .fault f := by
  cases hr : s.resetLine with
  | true =>
    simp only [step, stepOnce, hr, if_true] at h
    cases h
  | false =>
    rw [step_of_running hr] at h
    unfold pending at h
    split at h
    · next e es _ =>
      rw [stepPending, exec_outEvent] at h
      cases h
    · next m _ _ => exact absurd h (exec_received_ne_fault (.inr (decodeMessage_layer m)) _ f)
    · split at h
      · next line rest _ => exact absurd h (exec_received_ne_fault (.inl (decodeLine_layer line)) _ f)
      · cases h
    · unfold pendingEngine at h
      cases he : s.engine <;> simp only [he] at h
      case prepareFirst => exact .inl ⟨rfl, h⟩
      case retransmit => exact .inr (.inl ⟨rfl, h⟩)
      case advance =>
        simp only [stepPending, advance] at h
        split at h <;> cases h
      all_goals exact .inr (.inr (pendingInput_fault h))

theorem stepEvent_fault {bytes : Bytes} {s : State} {f : Fault} (h : stepEvent bytes s = .fault f) :
    ∃ i rest, decodeEvent bytes = .ok (i, rest) ∧ exec i { s with port := rest } = .fault f := by
  unfold stepEvent at h
  split at h
  · cases h
  · next i rest hd =>
    split at h
    · cases h
    · exact ⟨i, rest, hd, h⟩

end Sys2Proof.Machine

namespace Sys2Proof

/-- EFF_CHUNK of the greatest legal CHUNK_CFG (10_state.md R22, R23). -/
theorem FlightInv.effChunk_le {s : Machine.State} (h : FlightInv s) : s.effChunk ≤ 1520 := by
  obtain ⟨-, hmax, heff⟩ := h.chunkLegal
  omega

end Sys2Proof

namespace Sys2Proof.Proofs

open Sys2Proof.Machine

/-- Settles O32: the request is of segment 0, which lies in every image. -/
theorem prepareFirstBuildsSegmentZero : Obligations.PrepareFirstBuildsSegmentZero := by
  intro s hq he cur
  have hin : cur.off + cur.len ≤ s.size := firstSegment_inImage s.size
  rw [step_of_prepareFirst hq he]
  refine ⟨fun hle => ?_, fun hgt => prepareFirst_of_error (buildSegment_of_gt hin hgt)⟩
  obtain ⟨lines, hlines, hbuild⟩ := buildSegment_of_le hin hle
  obtain ⟨-, hemits, -⟩ := hq
  refine ⟨lines, hlines, ?_⟩
  rw [prepareFirst_of_ok hbuild, hemits]
  rfl

/-- Settles O55: every segment the engine builds keeps to EFF_CHUNK, at most 1520 bytes, and so does its request to 65533. -/
theorem engineFaultsOnlyOnAnIllegalChunk : Obligations.EngineFaultsOnlyOnAnIllegalChunk := by
  intro s f hinv hcodec hsize hcalls h
  rcases step_fault_cases h with ⟨-, hf⟩ | ⟨he, hf⟩ | ⟨hwait, hne⟩ | hf
  · have hlong := prepareFirst_oversized hf
    have hshort := length_segmentMessage_le (seg := firstSegment s.size) hcodec hsize (Nat.zero_le _)
      (show min 32 s.size ≤ 1520 by omega)
    omega
  · have hfl := hinv.session.flight (.inr (.inr (.inl he)))
    have hin := hfl.curInImage
    have hlong := retransmit_oversized hin hf
    have hshort := length_segmentMessage_le hcodec hsize (Nat.le_of_add_right_le hin) (hfl.curBudget.trans hfl.effChunk_le)
    omega
  · exact absurd hcalls (by tauto)
  · obtain ⟨i, rest, hd, hexec⟩ := stepEvent_fault hf
    rcases exec_fault_cases hexec with ⟨_, _, _, _, _, _, _, _, rfl, hchunk, hcfg⟩ | ⟨-, ho, n, hn, hlong⟩ | hreq
    · exact ⟨hcfg, _, _, _, _, _, _, _, _, rest, hd, hchunk⟩
    · have hfl := hinv.flight_of_write ho
      obtain ⟨-, hin, -, -, hbudget⟩ := nextSegment_follows hfl.effChunk_pos hn
      have hshort := length_segmentMessage_le (s := { s with port := rest }) hcodec hsize (Nat.le_of_add_right_le hin)
        (hbudget.trans hfl.effChunk_le)
      omega
    · rw [decodeEvent_layer hd] at hreq
      cases hreq

end Sys2Proof.Proofs
end

section
/-! PROOFS. One read and one line of the frame decoder (42_frame_decoder.md): what DecFeed keeps, what a line's text comes to, and
the steps of the rows of this file. -/

namespace Sys2Proof.Machine

/-! DecFeed (R150, R152). -/

theorem keptBytes_fresh (bs : Bytes) : keptBytes true bs = bs.dropWhile isCrLf := rfl

theorem foldl_feedByte (bs acc : Bytes) (fresh : Bool) :
    bs.foldl feedByte (acc, fresh) = (acc ++ keptBytes fresh bs, fresh && (keptBytes fresh bs).isEmpty) := by
  induction bs generalizing acc fresh with
  | nil => cases fresh <;> simp [keptBytes]
  | cons b bs ih =>
    by_cases hskip : fresh && isCrLf b
    · obtain ⟨rfl, hb⟩ : fresh = true ∧ isCrLf b = true := by simpa using hskip
      have hkept : keptBytes true (b :: bs) = keptBytes true bs := by
        rw [keptBytes_fresh, keptBytes_fresh, List.dropWhile_cons_of_pos hb]
      rw [List.foldl_cons, feedByte, if_pos hskip, ih, hkept]
    · have hkept : keptBytes fresh (b :: bs) = b :: keptBytes false bs := by
        cases fresh
        · rfl
        · exact List.dropWhile_cons_of_neg (p := isCrLf) hskip
      rw [List.foldl_cons, feedByte, if_neg hskip, ih, hkept]
      simp

theorem decFeed_eq (bs : Bytes) (s : State) :
    decFeed bs s =
      { s with acc := s.acc ++ keptBytes s.fresh bs, fresh := s.fresh && (keptBytes s.fresh bs).isEmpty } := by
  simp only [decFeed, foldl_feedByte]

theorem decFeed_append (as bs : Bytes) (s : State) : decFeed bs (decFeed as s) = decFeed (as ++ bs) s := by
  simp only [decFeed, List.foldl_append]

/-! The CRC check (R162) on the two bytes at the end. -/

theorem slice_zero (a : Bytes) (n : Nat) : slice a 0 n = a.take n := rfl

theorem crcOk_iff_drop {init : Word16} {buf : Bytes} (h : 2 ≤ buf.length) :
    crcOk init buf = true ↔ buf.drop (buf.length - 2) = be16 (crc16 init (buf.take (buf.length - 2))) := by
  obtain ⟨d, hi, lo, rfl⟩ := exists_eq_append_pair h
  rw [crcOk_append_pair, eq_comm, append_eq_word16_iff]
  simp [be16]

theorem crcOk_checksum (init : Word16) (m : Bytes) : crcOk init (checksum init m) = true :=
  (crcOk_iff (two_le_length_checksum init m)).2 (crc16_checksum init m)

/-! A line of DecPoll (R154–R162): `pollLine` on RSM is what the instruction of the line does to the state. -/

/-- What the outcome of a line makes of the state. -/
def afterLine : LineResult × Rsm → State → State
  | (.scanOn, rsm), s => { s with rsm := rsm }
  | (.message m, rsm), s => { s with rsm := rsm, scan := .message m }
  | (.err sub, rsm), s => integrityFailure sub { s with rsm := rsm }

theorem completionCheck_eq_afterLine (decl : Word16) (rbuf : Bytes) (s : State) :
    completionCheck decl rbuf s = afterLine (pollBuffer s.crcInit decl rbuf) s := by
  simp only [completionCheck, pollBuffer]
  split
  · rfl
  · split
    · rfl
    · split <;> rfl

theorem completionCheck_eq_collected {decl : Word16} (h : 2 ≤ decl.toNat) (rbuf : Bytes) (s : State) :
    completionCheck decl rbuf s = collected decl.toNat rbuf s := by
  have hdecl : BitVec.ofNat 16 decl.toNat = decl := by simp
  rcases lt_trichotomy rbuf.length decl.toNat with hlt | heq | hgt
  · simp [completionCheck, collected, hdecl, hlt, hlt.not_gt]
  · have hcrc := crcOk_iff_drop (init := s.crcInit) (h.trans_eq heq.symm)
    rw [heq] at hcrc
    by_cases hok : crcOk s.crcInit rbuf = true
    · simp [completionCheck, collected, heq, hok, hcrc.1 hok, slice_zero]
    · simp [completionCheck, collected, heq, hok, mt hcrc.2 hok]
      rfl
  · simp [completionCheck, collected, hdecl, hgt]
    rfl

/-- A Start line's text of a declared length and the first bytes of the buffer (R157). -/
theorem execLineStart_of_decode {text rbuf : Bytes} {hi lo : Byte} (h : b64Decode text = some (hi :: lo :: rbuf))
    (s : State) :
    execLineStart text s = .next (if hi.toNat * 256 + lo.toNat < 2 then integrityFailure .length s
      else completionCheck (BitVec.ofNat 16 (hi.toNat * 256 + lo.toNat)) rbuf s) := by
  have hdecl : rdBe16 (hi :: lo :: rbuf) 0 = hi.toNat * 256 + lo.toNat := rfl
  have htwo : ¬ (hi :: lo :: rbuf).length < 2 := by simp
  simp only [execLineStart, h, htwo, hdecl, if_false]
  split <;> rfl

/-- The lines that leave RSM as it was (R160). -/
theorem pollLine_ignored {line : Bytes} {rsm : Rsm} (init : Word16)
    (h : line.length ≤ 2 ∨ (line.take 2 ≠ [0x06, 0x09] ∧ line.take 2 ≠ [0x04, 0x14])
      ∨ (line.take 2 = [0x04, 0x14] ∧ rsm = .idle)) : pollLine init rsm line = (.scanOn, rsm) := by
  rcases h with hshort | ⟨hstart, hcont⟩ | ⟨hcont, rfl⟩
  · exact if_pos hshort
  · simp only [pollLine, hstart, hcont, if_false, ite_self]
  · simp [pollLine, hcont]

/-- A line, whatever its class, does to the state what R154 to R162 give for it. -/
theorem exec_decodeLine (line : Bytes) (s : State) :
    exec (decodeLine line) s = .next (afterLine (pollLine s.crcInit s.rsm line) s) := by
  rcases line_cases line with hshort | ⟨m0, m1, t, ts, rfl, ⟨rfl, rfl⟩ | ⟨rfl, rfl⟩ | ⟨hstart, hcont⟩⟩
  · rw [decodeLine_noise hshort, pollLine_ignored s.crcInit (.inl hshort)]
    rfl
  · have hmarker : (0x06 :: 0x09 :: t :: ts : Bytes).take 2 = [0x06, 0x09] := rfl
    rw [decodeLine_start (List.cons_ne_nil t ts), pollLine.eq_def, if_neg (by simp), if_pos hmarker]
    simp only [exec, execLineStart, completionCheck_eq_afterLine, List.drop_succ_cons, List.drop_zero]
    cases b64Decode (t :: ts) with
    | none => rfl
    | some d =>
      simp only
      split
      · rfl
      · split <;> rfl
  · have hmarker : (0x04 :: 0x14 :: t :: ts : Bytes).take 2 = [0x04, 0x14] := rfl
    rw [decodeLine_cont (List.cons_ne_nil t ts), pollLine.eq_def, if_neg (by simp), if_neg (by simp), if_pos hmarker]
    simp only [exec, execLineCont, completionCheck_eq_afterLine, List.drop_succ_cons, List.drop_zero]
    cases hr : s.rsm with
    | idle => simp only [afterLine, ← hr]
    | collect decl rbuf => cases b64Decode (t :: ts) <;> simp only [afterLine, ← hr]
  · have hother : (m0 :: m1 :: t :: ts).take 2 ≠ [0x06, 0x09] ∧ (m0 :: m1 :: t :: ts).take 2 ≠ [0x04, 0x14] := by
      simpa using And.intro hstart hcont
    rw [decodeLine_other (List.cons_ne_nil t ts) hstart hcont, pollLine_ignored s.crcInit (.inr (.inl hother))]
    rfl

/-! The step while DecPoll scans. -/

theorem step_of_scanned_line {s : State} {line rest : Bytes} (hr : s.resetLine = false) (he : s.emits = [])
    (hs : s.scan = .lines) (hacc : s.acc = line ++ newline :: rest) (hnl : newline ∉ line) :
    step s = .next (afterLine (pollLine s.crcInit s.rsm line) { s with acc := rest }) := by
  rw [step_of_line hr he hs (splitLine_eq_some_iff.2 ⟨hacc, hnl⟩), exec_decodeLine]

theorem step_of_no_line {s : State} (hr : s.resetLine = false) (he : s.emits = []) (hs : s.scan = .lines)
    (hnl : newline ∉ s.acc) : step s = .next (needMore s) := by
  simp [step_of_running hr, pending, he, hs, splitLine_eq_none_iff.2 hnl, stepPending]

theorem execRdData_of_read {s : State} (ho : s.outstanding = some .read) (bs : Bytes) :
    execRdData bs s = .next { decFeed bs s with outstanding := none, scan := .lines } :=
  if_neg (not_not.2 ho)

end Sys2Proof.Machine

namespace Sys2Proof.Proofs

open Sys2Proof.Machine

/-- Settles O12. -/
theorem feedStripsOnlyLeadingCrLf : Obligations.FeedStripsOnlyLeadingCrLf := ⟨decFeed_eq, decFeed_append⟩

/-- Settles O14: the clauses are the checks of R157 in their order. -/
theorem startLineBeginsACollection : Obligations.StartLineBeginsACollection := by
  intro text s
  refine ⟨fun hd => ?malformed, fun d hd hshort => ?short, fun hi lo rbuf hd => ?declared⟩
  case malformed =>
    simp only [exec, execLineStart, hd]
    rfl
  case short =>
    simp only [exec, execLineStart, hd, hshort, if_true]
    rfl
  case declared =>
    refine (execLineStart_of_decode hd s).trans ?_
    split
    · rfl
    · next hdecl =>
      have hdeclNat : (BitVec.ofNat 16 (hi.toNat * 256 + lo.toNat)).toNat = hi.toNat * 256 + lo.toNat := by
        rw [BitVec.toNat_ofNat, Nat.mod_eq_of_lt (by omega)]
      rw [completionCheck_eq_collected (by omega), hdeclNat]

/-- Settles O15, by RSM. -/
theorem continuationLineExtendsTheCollection : Obligations.ContinuationLineExtendsTheCollection := by
  intro text s
  refine ⟨fun hr => ?idle, fun decl rbuf hr hdecl => ⟨fun hd => ?malformed, fun d hd => ?appended⟩⟩
  case idle => simp only [exec, execLineCont, hr]
  case malformed =>
    simp only [exec, execLineCont, hr, hd]
    rfl
  case appended => simp only [exec, execLineCont, hr, hd, completionCheck_eq_collected hdecl]

/-- Settles O16. -/
theorem noiseAndOtherLinesRun : Obligations.NoiseAndOtherLinesRun := fun _ _ _ _ => ⟨rfl, rfl⟩

/-- Settles O17: DecPoll goes on with RSM as it was. -/
theorem ignoredLinesLeaveTheCollection : Obligations.IgnoredLinesLeaveTheCollection := by
  intro s line rest hr he hs hacc hnl hignored
  rw [step_of_scanned_line hr he hs hacc hnl, pollLine_ignored s.crcInit hignored]
  rfl

/-- Settles O18. -/
theorem noLineAsksForMore : Obligations.NoLineAsksForMore := by
  intro s hr he hs hnl
  rw [step_of_no_line hr he hs hnl, needMore, emit, he]
  rfl

/-- Settles O20. -/
theorem nonresponseResumesTheScan : Obligations.NonresponseResumesTheScan := fun _ _ => rfl

/-- Settles O27. -/
theorem readDataFeedsTheDecoder : Obligations.ReadDataFeedsTheDecoder := by
  intro bs s ho
  refine (execRdData_of_read ho bs).trans ?_
  rw [decFeed_eq]

end Sys2Proof.Proofs
end

section
/-! PROOFS. DecPoll over a stream of lines (42_frame_decoder.md R153–R166): it goes line by line, a poll that asks for more can be
taken up where it stopped, and so the lines of an encoded message are read back over any split into reads. -/

namespace Sys2Proof.Machine

/-! DecPoll, line by line. -/

/-- `DecPoll` with fuel for every line of ACC. -/
def poll (init : Word16) (acc : Bytes) (rsm : Rsm) : PollResult × Bytes × Rsm := decPoll init acc.length acc rsm

/-- How DecPoll goes on after a line, with the bytes behind it. -/
def pollAfterLine (init : Word16) (rest : Bytes) : LineResult × Rsm → PollResult × Bytes × Rsm
  | (.scanOn, rsm) => poll init rest rsm
  | (.err sub, rsm) => (.err sub, rest, rsm)
  | (.message m, rsm) => if isResponse m then (.ok m, rest, rsm) else poll init rest rsm

/-- Fuel beyond the length of ACC changes nothing. -/
theorem decPoll_fuel_congr {init : Word16} {f g : Nat} {acc : Bytes} {rsm : Rsm} (hf : acc.length ≤ f) (hg : acc.length ≤ g) :
    decPoll init f acc rsm = decPoll init g acc rsm := by
  induction f generalizing g acc rsm with
  | zero =>
    obtain rfl := List.eq_nil_of_length_eq_zero (Nat.le_zero.1 hf)
    cases g <;> rfl
  | succ f ih =>
    cases g with
    | zero =>
      obtain rfl := List.eq_nil_of_length_eq_zero (Nat.le_zero.1 hg)
      rfl
    | succ g =>
      cases hl : splitLine acc with
      | none => simp only [decPoll, hl]
      | some p =>
        obtain ⟨line, rest⟩ := p
        obtain ⟨rfl, -⟩ := splitLine_eq_some_iff.1 hl
        simp only [List.length_append, List.length_cons] at hf hg
        have hrest : ∀ rsm, decPoll init f rest rsm = decPoll init g rest rsm := fun _ => ih (by omega) (by omega)
        simp only [decPoll, hl, hrest]

theorem poll_of_no_line {init : Word16} {acc : Bytes} {rsm : Rsm} (h : newline ∉ acc) :
    poll init acc rsm = (.needMore, acc, rsm) := by
  unfold poll
  cases acc with
  | nil => rfl
  | cons b acc => simp only [List.length_cons, decPoll, splitLine_eq_none_iff.2 h]

theorem poll_line {init : Word16} {line : Bytes} (h : newline ∉ line) (rest : Bytes) (rsm : Rsm) :
    poll init (line ++ newline :: rest) rsm = pollAfterLine init rest (pollLine init rsm line) := by
  have hfuel : ∀ rsm, decPoll init (line.length + rest.length) rest rsm = poll init rest rsm := fun _ =>
    decPoll_fuel_congr (Nat.le_add_left _ _) le_rfl
  have hlen : (line ++ newline :: rest).length = line.length + rest.length + 1 := by
    rw [List.length_append, List.length_cons, Nat.add_assoc]
  rw [poll, hlen]
  simp only [decPoll, splitLine_eq_some_iff.2 ⟨rfl, h⟩, hfuel]
  rcases pollLine init rsm line with ⟨_ | _ | _, _⟩ <;> rfl

/-- Bytes are lines, each ended by a newline, and a tail without one. -/
theorem lines_induction {motive : Bytes → Prop} (tail : ∀ acc, newline ∉ acc → motive acc)
    (line : ∀ line rest, newline ∉ line → motive rest → motive (line ++ newline :: rest)) (acc : Bytes) : motive acc := by
  induction hn : acc.length using Nat.strong_induction_on generalizing acc with
  | _ n ih =>
    cases hl : splitLine acc with
    | none => exact tail acc (splitLine_eq_none_iff.1 hl)
    | some p =>
      obtain ⟨first, rest⟩ := p
      obtain ⟨rfl, hnl⟩ := splitLine_eq_some_iff.1 hl
      exact line first rest hnl (ih rest.length (by rw [← hn, List.length_append, List.length_cons]; omega) rest rfl)

/-- A poll that asks for more is taken up, with the bytes that follow, where it stopped. -/
theorem poll_append {init : Word16} {acc acc' : Bytes} {rsm rsm' : Rsm} (h : poll init acc rsm = (.needMore, acc', rsm'))
    (more : Bytes) : poll init (acc ++ more) rsm = poll init (acc' ++ more) rsm' := by
  induction acc using lines_induction generalizing rsm with
  | tail acc hnl =>
    rw [poll_of_no_line hnl] at h
    cases h
    rfl
  | line line rest hnl ih =>
    rw [poll_line hnl] at h
    rw [List.append_assoc, List.cons_append, poll_line hnl]
    rcases hl : pollLine init rsm line with ⟨_ | m | _, rsm1⟩ <;> rw [hl] at h
    · exact ih h
    · simp only [pollAfterLine] at h ⊢
      split at h
      · cases h
      · next hm => rw [if_neg hm]; exact ih h
    · cases h

/-! What the decoder waits for. -/

/-- From `rsm`, with `acc` in store, the bytes `bs` lead DecPoll to `res`, with nothing left in store or collected; and before the
last of them it asks for more (R166). -/
structure Awaits (init : Word16) (acc : Bytes) (rsm : Rsm) (bs : Bytes) (res : PollResult) : Prop where
  whole : poll init (acc ++ bs) rsm = (res, [], .idle)
  before : ∀ fed more, fed ++ more = bs → more ≠ [] → (poll init (acc ++ fed) rsm).1 = .needMore

/-- A read of a part of the awaited bytes leaves the decoder waiting for the rest. -/
theorem Awaits.fed {init : Word16} {acc fed more : Bytes} {rsm : Rsm} {res : PollResult}
    (h : Awaits init acc rsm (fed ++ more) res) (hmore : more ≠ []) :
    ∃ acc' rsm', poll init (acc ++ fed) rsm = (.needMore, acc', rsm') ∧ Awaits init acc' rsm' more res := by
  obtain ⟨acc', rsm', hp⟩ : ∃ acc' rsm', poll init (acc ++ fed) rsm = (.needMore, acc', rsm') :=
    ⟨_, _, Prod.ext (h.before fed more rfl hmore) rfl⟩
  refine ⟨acc', rsm', hp, ?_, fun fed' more' heq hne => ?_⟩
  · rw [← poll_append hp, List.append_assoc, h.whole]
  · rw [← poll_append hp, List.append_assoc]
    exact h.before _ more' (by rw [List.append_assoc, heq]) hne

/-- Within a line there is no line. -/
theorem poll_of_part_of_line {init : Word16} {line fed more : Bytes} (rsm : Rsm) (hnl : newline ∉ line)
    (h : fed ++ more = line) : poll init fed rsm = (.needMore, fed, rsm) :=
  poll_of_no_line fun hmem => hnl (h ▸ List.mem_append_left more hmem)

/-- Bytes fed of a line and what follows it: a part of the line, or all of it and a part of what follows. -/
theorem fed_line_cases {line rest fed more : Bytes} (h : fed ++ more = line ++ newline :: rest) :
    (∃ left, fed ++ left = line) ∨ ∃ fed', fed = line ++ newline :: fed' ∧ fed' ++ more = rest := by
  rcases List.append_eq_append_iff.1 h with ⟨left, hline, -⟩ | ⟨left, hfed, hmore⟩
  · exact .inl ⟨left, hline.symm⟩
  · cases left with
    | nil => exact .inl ⟨[], by simp [hfed]⟩
    | cons b left =>
      rw [List.cons_append, List.cons.injEq] at hmore
      obtain ⟨rfl, hrest⟩ := hmore
      exact .inr ⟨left, hfed, hrest.symm⟩

theorem awaits_line {init : Word16} {line rest : Bytes} {rsm rsm' : Rsm} {res : PollResult} (hnl : newline ∉ line)
    (hline : pollLine init rsm line = (.scanOn, rsm')) (h : Awaits init [] rsm' rest res) :
    Awaits init [] rsm (line ++ newline :: rest) res where
  whole := by
    rw [List.nil_append, poll_line hnl, hline]
    exact h.whole
  before fed more heq hne := by
    rcases fed_line_cases heq with ⟨left, hleft⟩ | ⟨fed', rfl, hrest⟩
    · rw [List.nil_append, poll_of_part_of_line rsm hnl hleft]
    · rw [List.nil_append, poll_line hnl, hline]
      exact h.before fed' more hrest hne

/-- What DecPoll returns for a checked message after which nothing is in store (R163). -/
def responseResult (m : Bytes) : PollResult := if isResponse m then .ok m else .needMore

theorem awaits_last_line {init : Word16} {line m : Bytes} {rsm : Rsm} (hnl : newline ∉ line)
    (hline : pollLine init rsm line = (.message m, .idle)) :
    Awaits init [] rsm (line ++ [newline]) (responseResult m) where
  whole := by
    rw [List.nil_append, poll_line hnl, hline, pollAfterLine, responseResult]
    split <;> rfl
  before fed more heq hne := by
    rcases fed_line_cases heq with ⟨left, hleft⟩ | ⟨fed', -, hrest⟩
    · rw [List.nil_append, poll_of_part_of_line rsm hnl hleft]
    · exact absurd (List.append_eq_nil_iff.1 hrest).2 hne

/-! Reads. -/

/-- Bytes of which a fresh accumulation drops none (R152). -/
def startsClean (bs : Bytes) : Prop := ∀ b ∈ bs.head?, isCrLf b = false

theorem startsClean.of_append {as bs : Bytes} (h : startsClean (as ++ bs)) : startsClean as := fun b hb =>
  h b (List.mem_head?_append_of_mem_head? hb)

theorem keptBytes_of_startsClean {fresh : Bool} {bs : Bytes} (h : fresh = true → startsClean bs) : keptBytes fresh bs = bs := by
  cases fresh with
  | false => rfl
  | true => cases bs with
    | nil => rfl
    | cons b bs => exact List.dropWhile_cons_of_neg (p := isCrLf) (Bool.eq_false_iff.1 (h rfl b rfl))

/-- A read of which no byte is dropped is polled behind what is in store. -/
theorem readPoll_eq {init : Word16} {r : DecRegs} {bs : Bytes} (h : r.fresh = true → startsClean bs) :
    readPoll init r bs = ((poll init (r.acc ++ bs) r.rsm).1,
      ⟨(poll init (r.acc ++ bs) r.rsm).2.1, r.fresh && bs.isEmpty, (poll init (r.acc ++ bs) r.rsm).2.2⟩) := by
  simp only [readPoll, foldl_feedByte, keptBytes_of_startsClean h]
  rfl

/-- Awaited bytes lead to their result over any split into reads. -/
theorem pollTrace_of_awaits {init : Word16} {pre : List Bytes} {last : Bytes} {r : DecRegs} {res : PollResult}
    (h : Awaits init r.acc r.rsm (pre.flatten ++ last) res) (hlast : last ≠ [])
    (hclean : r.fresh = true → startsClean (pre.flatten ++ last)) :
    pollTrace init r (pre ++ [last]) = List.replicate pre.length .needMore ++ [res] := by
  induction pre generalizing r with
  | nil =>
    have hpoll : poll init (r.acc ++ last) r.rsm = (res, [], .idle) := h.whole
    rw [List.nil_append, pollTrace, readPoll_eq (bs := last) hclean, hpoll]
    rfl
  | cons bs pre ih =>
    rw [List.flatten_cons, List.append_assoc] at h hclean
    obtain ⟨acc', rsm', hpoll, hrest⟩ := h.fed (List.append_ne_nil_of_right_ne_nil _ hlast)
    rw [List.cons_append, pollTrace, readPoll_eq fun hf => (hclean hf).of_append, hpoll, ih hrest]
    · rfl
    · intro hf
      obtain ⟨hfresh, hbs⟩ : r.fresh = true ∧ bs.isEmpty = true := by simpa using hf
      obtain rfl := List.isEmpty_iff.1 hbs
      exact hclean hfresh

/-! The lines of a message (41_frame_encoder.md R132–R134). -/

theorem b64Encode_ne_nil {raw : Bytes} (h : raw ≠ []) : b64Encode raw ≠ [] := by
  have hlen := (decodesTo_b64Encode raw).length_text
  have hpos := List.length_pos_iff.2 h
  refine List.ne_nil_of_length_pos ?_
  omega

theorem frameLine_append (m0 m1 : Byte) (raw rest : Bytes) :
    frameLine m0 m1 raw ++ rest = (m0 :: m1 :: b64Encode raw) ++ newline :: rest := by
  simp [frameLine]

theorem newline_not_mem_frame {m0 m1 : Byte} (hm : newline ∉ [m0, m1]) (raw : Bytes) :
    newline ∉ m0 :: m1 :: b64Encode raw := by
  have htext : newline ∉ b64Encode raw := (decodesTo_b64Encode raw).not_mem (by decide) (by decide)
  exact fun h => (List.mem_append.1 (show newline ∈ [m0, m1] ++ b64Encode raw from h)).elim hm htext

theorem pollLine_start {init : Word16} {rsm : Rsm} {raw : Bytes} (hlen : 2 ≤ raw.length) (hdecl : 2 ≤ rdBe16 raw 0) :
    pollLine init rsm (0x06 :: 0x09 :: b64Encode raw) = pollBuffer init (BitVec.ofNat 16 (rdBe16 raw 0)) (raw.drop 2) := by
  have hpos := List.length_pos_iff.2 (b64Encode_ne_nil (List.ne_nil_of_length_pos (by omega : 0 < raw.length)))
  have hmarker : (0x06 :: 0x09 :: b64Encode raw).take 2 = [0x06, 0x09] := rfl
  have htext : b64Decode ((0x06 :: 0x09 :: b64Encode raw).drop 2) = some raw := b64Decode_of_decodesTo (decodesTo_b64Encode raw)
  rw [pollLine.eq_def, if_neg (by simp only [List.length_cons]; omega), if_pos hmarker, htext]
  simp only [hlen.not_gt, hdecl.not_gt, if_false]

theorem pollLine_cont {init decl : Word16} {rbuf raw : Bytes} (hraw : raw ≠ []) :
    pollLine init (.collect decl rbuf) (0x04 :: 0x14 :: b64Encode raw) = pollBuffer init decl (rbuf ++ raw) := by
  have hpos := List.length_pos_iff.2 (b64Encode_ne_nil hraw)
  have hstart : (0x04 :: 0x14 :: b64Encode raw).take 2 ≠ [0x06, 0x09] := by simp
  have hmarker : (0x04 :: 0x14 :: b64Encode raw).take 2 = [0x04, 0x14] := rfl
  have htext : b64Decode ((0x04 :: 0x14 :: b64Encode raw).drop 2) = some raw := b64Decode_of_decodesTo (decodesTo_b64Encode raw)
  rw [pollLine.eq_def, if_neg (by simp only [List.length_cons]; omega), if_neg hstart, if_pos hmarker]
  simp only [htext]

theorem pollBuffer_of_lt {init decl : Word16} {rbuf : Bytes} (h : rbuf.length < decl.toNat) :
    pollBuffer init decl rbuf = (.scanOn, .collect decl rbuf) := by
  rw [pollBuffer, if_neg h.not_gt, if_pos h]

/-- The whole checksummed buffer passes the length check and the CRC check, and gives its message. -/
theorem pollBuffer_checksum {init decl : Word16} {m : Bytes} (h : decl.toNat = (checksum init m).length) :
    pollBuffer init decl (checksum init m) = (.message m, .idle) := by
  have hmsg : slice (checksum init m) 0 ((checksum init m).length - 2) = m := by
    simp [slice_zero, checksum, be16]
  rw [pollBuffer, if_neg h.not_lt, if_neg h.not_gt, if_pos (crcOk_checksum init m), hmsg]

/-- The Continuation lines of what is still to be collected. -/
theorem awaits_chunks {init decl : Word16} {m : Bytes} (hdecl : decl.toNat = (checksum init m).length) {chunks : List Bytes}
    {rbuf : Bytes} (hbuf : rbuf ++ chunks.flatten = checksum init m) (hne : chunks ≠ [])
    (hchunks : ∀ chunk ∈ chunks, chunk ≠ []) :
    Awaits init [] (.collect decl rbuf) (chunks.map (frameLine 0x04 0x14)).flatten (responseResult m) := by
  induction chunks generalizing rbuf with
  | nil => exact absurd rfl hne
  | cons chunk chunks ih =>
    obtain ⟨hchunk, hrest⟩ := List.forall_mem_cons.1 hchunks
    have hnl := newline_not_mem_frame (m0 := 0x04) (m1 := 0x14) (by decide) chunk
    rw [List.flatten_cons, ← List.append_assoc] at hbuf
    rw [List.map_cons, List.flatten_cons, frameLine_append]
    cases chunks with
    | nil =>
      rw [List.flatten_nil, List.append_nil] at hbuf
      refine awaits_last_line hnl ?_
      rw [pollLine_cont hchunk, hbuf, pollBuffer_checksum hdecl]
    | cons next chunks =>
      refine awaits_line hnl ?_ (ih hbuf (List.cons_ne_nil _ _) hrest)
      have hnext := List.length_pos_iff.2 (List.forall_mem_cons.1 hrest).1
      rw [pollLine_cont hchunk, pollBuffer_of_lt]
      simp only [hdecl, ← hbuf, List.flatten_cons, List.length_append]
      omega

theorem rdBe16_be16Nat {n : Nat} (h : n < 2 ^ 16) (bs : Bytes) : rdBe16 (be16Nat n ++ bs) 0 = n := by
  simp [rdBe16, be16Nat, be16]
  omega

/-- A Start line declares the length of the whole buffer (R133, 42_frame_decoder.md R157). -/
theorem pollLine_of_whole_length {init : Word16} {buf : Bytes} (rsm : Rsm) (hmin : 2 ≤ buf.length)
    (hmax : buf.length < 2 ^ 16) :
    pollLine init rsm (0x06 :: 0x09 :: b64Encode (be16Nat buf.length ++ buf.take 91)) =
      pollBuffer init (BitVec.ofNat 16 buf.length) (buf.take 91) := by
  have hfield := rdBe16_be16Nat hmax (buf.take 91)
  rw [pollLine_start (by simp [be16Nat, be16]) (hfield.symm ▸ hmin), hfield]
  rfl

/-- Encoded lines are awaited by an idle decoder with nothing in store (R166). -/
theorem awaits_encoded {init : Word16} {m : Bytes} {lines : List Bytes} (h : encodeMessage init m = .ok lines) :
    Awaits init [] .idle lines.flatten (responseResult m) := by
  obtain ⟨hm, conts, hconts, rfl⟩ := encodeMessage_ok_iff.1 h
  obtain ⟨chunks, rfl, hflat, hcount, hchunks⟩ := contLines_chunks le_rfl hconts
  rw [List.length_drop] at hcount
  have hmax : (checksum init m).length < 2 ^ 16 := by
    simp [checksum, be16]
    omega
  have hdecl : (BitVec.ofNat 16 (checksum init m).length).toNat = (checksum init m).length := by
    rw [BitVec.toNat_ofNat, Nat.mod_eq_of_lt hmax]
  have hline := pollLine_of_whole_length .idle (two_le_length_checksum init m) hmax (init := init)
  have hnl := newline_not_mem_frame (m0 := 0x06) (m1 := 0x09) (by decide)
    (be16Nat (checksum init m).length ++ (checksum init m).take 91)
  rw [startLine_eq_frameLine, List.flatten_cons, frameLine_append]
  by_cases hone : (checksum init m).length ≤ 91
  · obtain rfl : chunks = [] := List.eq_nil_of_length_eq_zero (by omega)
    refine awaits_last_line hnl ?_
    rw [hline, List.take_of_length_le hone, pollBuffer_checksum hdecl]
  · refine awaits_line hnl (hline.trans (pollBuffer_of_lt ?_)) (awaits_chunks hdecl ?_ ?_ fun c hc => (hchunks c hc).1)
    · rw [hdecl, List.length_take]
      omega
    · rw [hflat, List.take_append_drop]
    · exact List.ne_nil_of_length_pos (by omega)

/-- A message begins with the marker of its Start line. -/
theorem head?_encoded {init : Word16} {m : Bytes} {lines : List Bytes} (h : encodeMessage init m = .ok lines) :
    lines.flatten.head? = some 0x06 := by
  obtain ⟨-, conts, -, rfl⟩ := encodeMessage_ok_iff.1 h
  rfl

theorem startsClean_encoded {init : Word16} {m : Bytes} {lines : List Bytes} (h : encodeMessage init m = .ok lines) :
    startsClean lines.flatten := by
  rw [startsClean, head?_encoded h]
  rintro b ⟨⟩
  rfl

end Sys2Proof.Machine

namespace Sys2Proof.Proofs

open Sys2Proof.Machine

/-- Settles O13: the lines are awaited from a fresh accumulation, which drops none of their bytes, and
every read leaves the rest awaited. -/
theorem decoderReadsBackTheEncoder : Obligations.DecoderReadsBackTheEncoder := by
  intro init m lines pre last henc hsplit hlast
  have hawaits := awaits_encoded henc
  rw [← hsplit] at hawaits
  exact pollTrace_of_awaits hawaits hlast fun _ => hsplit ▸ startsClean_encoded henc

end Sys2Proof.Proofs
end

section
/-! PROOFS. The steps that RD_DATA begins (log 1) come to DecPoll as a whole (44_upload_engine.md R218), and to the answer of a
response received whole (R221, 43_message_codec.md R190–R193). -/

namespace Sys2Proof.Machine

/-! A response (43_message_codec.md R190–R193, 44_upload_engine.md R221). -/

theorem exists_headerBytes_of_isResponse {msg : Bytes} (h : isResponse msg = true) :
    ∃ op hdr payload, msg = headerBytes op hdr ++ payload ∧ (op = 1 ∨ op = 3) := by
  obtain ⟨b0, b1, b2, b3, b4, b5, b6, b7, payload, rfl⟩ : ∃ b0 b1 b2 b3 b4 b5 b6 b7 payload,
      msg = b0 :: b1 :: b2 :: b3 :: b4 :: b5 :: b6 :: b7 :: payload := by
    match msg, h with
    | b0 :: b1 :: b2 :: b3 :: b4 :: b5 :: b6 :: b7 :: payload, _ => exact ⟨b0, b1, b2, b3, b4, b5, b6, b7, payload, rfl⟩
  have hfirst : b0.extractLsb' 3 5 ++ opOf b0 = b0 :=
    (BitVec.extractLsb'_append_extractLsb'_eq_extractLsb' rfl).trans BitVec.extractLsb'_eq_self
  refine ⟨opOf b0, ⟨b0.extractLsb' 3 5, b1, b2 ++ b3, b4 ++ b5, b6, b7⟩, payload, ?_, by simpa [isResponse] using h⟩
  simp [headerBytes, hfirst]

theorem eight_le_length_of_isResponse {msg : Bytes} (h : isResponse msg = true) : 8 ≤ msg.length := by
  obtain ⟨op, hdr, payload, rfl, -⟩ := exists_headerBytes_of_isResponse h
  simp [headerBytes, be16]

/-- The response test (42_frame_decoder.md R163). -/
theorem exec_decodeMessage (msg : Bytes) (s : State) :
    exec (decodeMessage msg) s = .next (if isResponse msg then acceptResponse msg s else { s with scan := .lines }) := by
  cases hm : isResponse msg with
  | false =>
    rw [decodeMessage_of_not_isResponse hm]
    rfl
  | true =>
    obtain ⟨op, hdr, payload, rfl, hop⟩ := exists_headerBytes_of_isResponse hm
    rw [decodeMessage_headerBytes]
    rcases hop with rfl | rfl <;> rfl

theorem lastValue_eq_lastOf (key : Config.Key) (kvs : List (Config.Key × Config.RValue)) :
    lastValue key kvs = lastOf key kvs := by
  induction kvs using List.reverseRecOn with
  | nil => rfl
  | append_singleton kvs kv ih =>
    rw [lastValue, List.foldl_append, ← lastValue, ih]
    by_cases hk : kv.1 = key <;> simp [lastOf, hk]

theorem judge_eq_judged (s : State) : judge s = judged s := by
  simp only [judge, judged, enterDone, emit, List.append_assoc]
  rfl

/-- A response's payload alone decides (R195). -/
theorem acceptResponse_eq_answered {msg : Bytes} (h : 8 ≤ msg.length) (s : State) :
    acceptResponse msg s = answered (msg.drop 8) s := by
  simp only [acceptResponse, answered, decodeResponse, Config.hdrLen, h.not_gt, if_false]
  cases decPayload s.codec (msg.drop 8) with
  | none => rfl
  | some kvs =>
    simp only [responseFields, lastValue_eq_lastOf]
    rcases (lastOf keyRc kvs).getD (.int 0) with rc | _ <;> rcases lastOf keyOff kvs with _ | off | _
    case int.none =>
      cases s.strictOff
      · simp [judge_eq_judged]
      · rfl
    case int.some.int => simp [judge_eq_judged]
    all_goals rfl

/-! Runs. -/

/-- Some number of steps leads from one state to another. -/
def reaches (s t : State) : Prop := ∃ k, Host.Core.run Sys2Proof.core k s = .next t

theorem reaches_refl (s : State) : reaches s s := ⟨0, rfl⟩

theorem reaches_of_step {s s' t : State} (h : step s = .next s') (ht : reaches s' t) : reaches s t := by
  obtain ⟨k, hk⟩ := ht
  have hstep : Sys2Proof.core.step s = .next s' := h
  exact ⟨k + 1, by simp only [Host.Core.run, hstep]; exact hk⟩

/-- What the result of a poll, with ACC and RSM after it, makes of the state (44_upload_engine.md R218). -/
def afterPoll : PollResult × Bytes × Rsm → State → State
  | (.needMore, acc, rsm), s => emit (.read s.deadline) { s with acc := acc, rsm := rsm, scan := .off }
  | (.err sub, acc, rsm), s => integrityFailure sub { s with acc := acc, rsm := rsm, scan := .off }
  | (.ok m, acc, rsm), s => acceptResponse m { s with acc := acc, rsm := rsm, scan := .off }

/-- The steps of a scan come to DecPoll as a whole. -/
theorem reaches_afterPoll {s : State} (hr : s.resetLine = false) (he : s.emits = []) (acc : Bytes) (rsm : Rsm) :
    reaches { s with acc := acc, rsm := rsm, scan := .lines } (afterPoll (poll s.crcInit acc rsm) s) := by
  induction acc using lines_induction generalizing rsm with
  | tail acc hnl =>
    rw [poll_of_no_line hnl]
    exact reaches_of_step (step_of_no_line hr he rfl hnl) (reaches_refl _)
  | line line rest hnl ih =>
    have hstep := step_of_scanned_line (s := { s with acc := line ++ newline :: rest, rsm := rsm, scan := .lines }) hr he rfl
      rfl hnl
    refine reaches_of_step hstep ?_
    rw [poll_line hnl]
    rcases pollLine s.crcInit rsm line with ⟨_ | m | sub, rsm'⟩
    case scanOn => exact ih rsm'
    case message =>
      have hmsg := step_of_message (s := { s with acc := rest, rsm := rsm', scan := .message m }) hr he rfl
      rw [exec_decodeMessage] at hmsg
      refine reaches_of_step hmsg ?_
      simp only [pollAfterLine]
      split
      · exact reaches_refl _
      · exact ih rsm'
    case err => exact reaches_refl _

/-- RD_DATA and the steps it begins: DecFeed, DecPoll as a whole, and its result. -/
theorem execRdData_reaches {s : State} (hr : s.resetLine = false) (he : s.emits = []) (ho : s.outstanding = some .read)
    (bs : Bytes) : ∃ t, exec (.rdData bs) s = .next t ∧
      reaches t (afterPoll (poll s.crcInit (decFeed bs s).acc s.rsm) { decFeed bs s with outstanding := none }) :=
  ⟨_, execRdData_of_read ho bs, reaches_afterPoll (s := { decFeed bs s with outstanding := none }) hr he _ _⟩

theorem rdDataWhole_eq_afterPoll (bs : Bytes) (s : State) :
    rdDataWhole bs s = afterPoll (poll s.crcInit (decFeed bs s).acc s.rsm) { decFeed bs s with outstanding := none } := by
  simp only [rdDataWhole, readPoll, poll, decFeed_acc]
  rcases decPoll s.crcInit _ _ s.rsm with ⟨_ | _ | _, _, _⟩ <;> rfl

end Sys2Proof.Machine

namespace Sys2Proof.Proofs

open Sys2Proof.Machine

/-- Settles O30: RD_DATA begins a scan, and the steps of the scan, line by line, come to DecPoll as a whole. -/
theorem readDataRunsDecPoll : Obligations.ReadDataRunsDecPoll := by
  intro bs s hr he ho
  obtain ⟨t, ht, k, hk⟩ := execRdData_reaches hr he ho bs
  exact ⟨t, k, ht, rdDataWhole_eq_afterPoll bs s ▸ hk⟩

/-- Settles O31: DecPoll gives the response back (R166), and the response is answered. -/
theorem wholeResponseIsAnswered : Obligations.WholeResponseIsAnswered := by
  intro m lines s hr he ho hacc hfresh hrsm hm henc
  have hne : lines.flatten ≠ [] := fun h => by simpa [h] using head?_encoded henc
  have hfed : decFeed lines.flatten s = { s with acc := lines.flatten, fresh := false } := by
    rw [decFeed_eq, keptBytes_of_startsClean fun _ => startsClean_encoded henc, List.isEmpty_eq_false_iff.2 hne,
      Bool.and_false, hacc]
    rfl
  have hpoll : poll s.crcInit lines.flatten s.rsm = (.ok m, [], .idle) := by
    have hwhole := (awaits_encoded henc).whole
    rw [hrsm]
    rwa [responseResult, if_pos hm] at hwhole
  have hkept : { s with acc := [], fresh := false, rsm := .idle, outstanding := none } =
      { s with fresh := false, outstanding := none } := by rw [hacc, hrsm]
  obtain ⟨t, ht, k, hk⟩ := execRdData_reaches hr he ho lines.flatten
  refine ⟨t, k, ht, hk.trans (congrArg _ ?_)⟩
  rw [hfed, ← hkept]
  simp only [hpoll, afterPoll, acceptResponse_eq_answered (eight_le_length_of_isResponse hm)]
  rfl

end Sys2Proof.Proofs
end

section
/-! PROOFS. The message codec (43_message_codec.md): the class of a received message by its length and op (R190), what a response of
any header comes to (R191–R195), and the four request builders (R180–R189). -/

namespace Sys2Proof.Machine

/-! Received messages, by their length and op (R190). -/

theorem opOf_eq_iff (b : Byte) (op : BitVec 3) : opOf b = op ↔ b.toNat % 8 = op.toNat := by
  simp [opOf, ← BitVec.toNat_inj]

theorem isResponse_iff (msg : Bytes) :
    isResponse msg = true ↔ 8 ≤ msg.length ∧ ((msg.headD 0).toNat % 8 = 1 ∨ (msg.headD 0).toNat % 8 = 3) := by
  cases msg with
  | nil => simp [isResponse]
  | cons b rest => simp [isResponse, opOf_eq_iff]

/-- The bytes with a header of op 1 or 3: the two classes of a response. -/
theorem exists_headerBytes_iff {op : BitVec 3} (hop : op = 1 ∨ op = 3) (msg : Bytes) :
    (∃ hdr payload, msg = headerBytes op hdr ++ payload) ↔ 8 ≤ msg.length ∧ (msg.headD 0).toNat % 8 = op.toNat := by
  have hfirst (op' : BitVec 3) (hdr : Header) (payload : Bytes) :
      ((headerBytes op' hdr ++ payload).headD 0).toNat % 8 = op'.toNat :=
    (opOf_eq_iff _ _).1 (Laws.opOf_cat hdr.res op')
  constructor
  · rintro ⟨hdr, payload, rfl⟩
    exact ⟨by simp [headerBytes, be16], hfirst op hdr payload⟩
  · rintro ⟨hlen, hop8⟩
    have hm : isResponse msg = true := (isResponse_iff msg).2 ⟨hlen, by rw [hop8]; rcases hop with rfl | rfl <;> decide⟩
    obtain ⟨op', hdr, payload, rfl, -⟩ := exists_headerBytes_of_isResponse hm
    obtain rfl : op' = op := BitVec.eq_of_toNat_eq ((hfirst op' hdr payload).symm.trans hop8)
    exact ⟨hdr, payload, rfl⟩

/-- No byte of a received message is lost. -/
theorem encode_decodeMessage (msg : Bytes) : encode (decodeMessage msg) = msg := by
  cases hm : isResponse msg with
  | false => rw [decodeMessage_of_not_isResponse hm]; rfl
  | true =>
    obtain ⟨op, hdr, payload, rfl, hop⟩ := exists_headerBytes_of_isResponse hm
    rw [decodeMessage_headerBytes]
    rcases hop with rfl | rfl <;> rfl

/-- On well-formed instructions of the message layer, `encode` inverts the classification. -/
theorem decodeMessage_eq_iff {msg : Bytes} {i : Instr} (hi : i.layer = .message) (hwf : i.wellFormed = true) :
    decodeMessage msg = i ↔ msg = encode i :=
  ⟨fun h => h ▸ (encode_decodeMessage msg).symm, fun h => h ▸ decodeMessage_encode hi hwf⟩

theorem isResponse_eq_false_iff (msg : Bytes) : isResponse msg = false ↔ decodeMessage msg = .msgNonresponse msg := by
  refine ⟨decodeMessage_of_not_isResponse, fun h => Bool.eq_false_iff.2 fun hm => ?_⟩
  obtain ⟨op, hdr, payload, rfl, hop⟩ := exists_headerBytes_of_isResponse hm
  rw [decodeMessage_headerBytes] at h
  rcases hop with rfl | rfl <;> cases h

/-- A response's header is ignored (R195). -/
theorem acceptResponse_headerBytes (op : BitVec 3) (hdr : Header) (payload : Bytes) (s : State) :
    acceptResponse (headerBytes op hdr ++ payload) s = answered payload s :=
  acceptResponse_eq_answered (by simp [headerBytes, be16]) s

/-! The request builders. -/

/-- Every builder builds the message of its fields or faults on their payload's length (R181, R189). -/
theorem callBuilder_eq (group : Word16) (id : Byte) (fields : List (Config.Key × Config.Value)) (s : State) :
    callBuilder group id fields s =
      if 65535 < (requestPayload s.codec s.seq group id fields).length then .fault .encodeRange
      else .next { s with seq := s.seq + 1, built := some (requestMessage s.codec s.seq group id fields) } := by
  rw [callBuilder, buildRequest_eq]
  split_ifs <;> rfl

end Sys2Proof.Machine

namespace Sys2Proof.Proofs

open Sys2Proof.Machine

/-- Settles O4, by the op of the message's header. -/
theorem responsesAreOpOneAndThree : Obligations.ResponsesAreOpOneAndThree := by
  intro msg
  refine ⟨isResponse_iff msg, ?read, ?write, isResponse_eq_false_iff msg, encode_decodeMessage msg, ?discarded⟩
  case read =>
    simp only [decodeMessage_eq_iff (i := .msgReadResponse _ _) rfl rfl]
    exact exists_headerBytes_iff (.inl rfl) msg
  case write =>
    simp only [decodeMessage_eq_iff (i := .msgWriteResponse _ _) rfl rfl]
    exact exists_headerBytes_iff (.inr rfl) msg
  case discarded =>
    intro hm s
    rw [exec_decodeMessage, hm]
    rfl

/-- Settles O19: both responses come to the answer of their payload. -/
theorem responseIsAnswered : Obligations.ResponseIsAnswered := fun hdr payload s =>
  ⟨congrArg _ (acceptResponse_headerBytes 1 hdr payload s), congrArg _ (acceptResponse_headerBytes 3 hdr payload s)⟩

/-- Settles O21: each of the four builders is a `callBuilder` of its group, id and fields. -/
theorem requestBuildersBuild : Obligations.RequestBuildersBuild := by
  intro s i group id fields hi
  have hexec : exec i s = callBuilder group id fields s := by
    rcases hi with ⟨flag, rfl, rfl, rfl, rfl⟩ | ⟨rfl, rfl, rfl, rfl⟩ | ⟨size, data, rfl, rfl, rfl, rfl⟩ |
      ⟨offset, data, rfl, rfl, rfl, rfl⟩ <;> rfl
  rw [hexec, callBuilder_eq]
  exact ⟨fun h => if_neg h.not_gt, fun h => if_pos h⟩

end Sys2Proof.Proofs
end

section
/-! PROOFS. The Upload Engine (44_upload_engine.md): its segments and what they carry, its internal transitions, the answers of the
port, and how a transfer ends. -/

namespace Sys2Proof.Machine

/-! Segments (R212, R214). -/

theorem nextSegment_eq_none_iff {size effChunk : Nat} {cur : Segment} :
    nextSegment size effChunk cur = none ↔ size ≤ cur.off + cur.len := by
  simp [nextSegment]

/-- A range of the image is read in two parts. -/
theorem Memory.readRange_add (img : List Host.Cell) (a m n : Nat) :
    Memory.readRange img a (m + n) = Memory.readRange img a m ++ Memory.readRange img (a + m) n := by
  simp [Memory.readRange, List.range_add, Nat.add_assoc]

/-- The image bytes of a segment. -/
def segmentData (img : List Host.Cell) (g : Segment) : Bytes := Memory.readRange img g.off g.len

/-- The segments from `cur` on carry the image from its offset to the end: each begins where the one before it ends (R214), and the
last ends with the image. -/
theorem flatMap_segmentsFrom {size effChunk fuel : Nat} {cur : Segment} (img : List Host.Cell) (heff : 1 ≤ effChunk)
    (hin : cur.off + cur.len ≤ size) (hfuel : size < cur.off + cur.len + fuel) :
    (segmentsFrom size effChunk fuel cur).flatMap (segmentData img) =
      Memory.readRange img cur.off (size - cur.off) := by
  induction fuel generalizing cur with
  | zero => omega
  | succ fuel ih =>
    rw [segmentsFrom, List.flatMap_cons, segmentData]
    cases hn : nextSegment size effChunk cur with
    | none =>
      have hend := nextSegment_eq_none_iff.1 hn
      simp [show size - cur.off = cur.len by omega]
    | some n =>
      obtain ⟨hoff, hnin, hlen, -⟩ := nextSegment_follows heff hn
      have hrest := ih hnin (by omega)
      calc Memory.readRange img cur.off cur.len ++ (segmentsFrom size effChunk fuel n).flatMap (segmentData img)
          = Memory.readRange img cur.off cur.len ++
              Memory.readRange img (cur.off + cur.len) (size - n.off) := by rw [hrest, hoff]
        _ = Memory.readRange img cur.off (cur.len + (size - n.off)) := (Memory.readRange_add ..).symm
        _ = Memory.readRange img cur.off (size - cur.off) := by congr 1; omega

/-! Retransmit (R224, R228, R229). -/

theorem step_of_retransmit {s : State} (hq : quiet s) (he : s.engine = .retransmit) : step s = retransmit s := by
  obtain ⟨hr, hem, hs⟩ := hq
  simp only [step_of_running hr, pending, hem, hs, pendingEngine, he, stepPending]

theorem retriesExhausted_iff (s : State) : retriesExhausted s = true ↔ ∃ k, s.maxRetries = some k ∧ k ≤ s.retry := by
  cases h : s.maxRetries <;> simp [retriesExhausted, h]

theorem retransmit_of_exhausted {s : State} (h : retriesExhausted s = true) :
    retransmit s = .next (raiseFailure .retryExhausted s.cur.off s) :=
  if_pos h

theorem retransmit_of_ok {s : State} {lines : Bytes} (hr : retriesExhausted s = false)
    (h : buildSegment s s.cur = .ok lines) :
    retransmit s = .next { s with
      retry := s.retry + 1, tmo := if s.cur.off = 0 then .first else .next, curLines := lines, seq := s.seq + 1,
      engine := .sendAndPrepareNext, emits := s.emits ++ [.write lines] } := by
  simp only [retransmit, hr, Bool.false_eq_true, if_false]
  split
  · next hb => cases hb.symm.trans h
  · next hb => cases hb.symm.trans h; rfl

theorem retransmit_of_error {s : State} {f : Fault} (hr : retriesExhausted s = false)
    (h : buildSegment s s.cur = .error f) : retransmit s = .fault f := by
  simp only [retransmit, hr, Bool.false_eq_true, if_false]
  split
  · next hb => cases hb.symm.trans h; rfl
  · next hb => cases hb.symm.trans h

/-! Advance (R225). -/

theorem step_of_advance {s : State} (hq : quiet s) (he : s.engine = .advance) : step s = advance s := by
  obtain ⟨hr, hem, hs⟩ := hq
  simp only [step_of_running hr, pending, hem, hs, pendingEngine, he, stepPending]

theorem advance_of_prepared {s : State} {n : Segment} {lines : Bytes} {ack : Nat} (hn : s.next = some n)
    (hl : s.nextLines = some lines) (hack : s.ack = ack) :
    advance s = .next ((if ack = s.size then enterDone else enterSend) { s with
      cur := n, curLines := lines, off := ack, tmo := .next, retry := 0, next := none, nextLines := none }) := by
  simp only [advance, hn, hl, show s.ack = .ofNat ack from hack]
  split <;> rfl

/-! The answers of the port (R216–R219). -/

/-- AwaitAck's entry (R217), on the registers. -/
theorem enterAwaitAck_eq (s : State) :
    enterAwaitAck s =
      let deadline : Nat := Config.now s.draws + (if s.tmo = .first then s.tFirst else s.tNext)
      { s with
        engine := .awaitAck, acc := [], fresh := true, rsm := .idle, deadline := deadline, draws := s.draws + 1,
        emits := s.emits ++ [.read deadline] } := by
  have hbudget : budget s = if s.tmo = .first then s.tFirst else s.tNext := by
    cases ht : s.tmo <;> simp [budget, ht]
  rw [← hbudget]
  rfl

theorem execWrOk_of_last {s : State} (ho : s.outstanding = some .write) (hn : nextSegment s.size s.effChunk s.cur = none) :
    execWrOk s = .next (enterAwaitAck { s with
      outstanding := none, wire := s.wire ++ s.curLines, next := none, nextLines := none }) := by
  simp only [execWrOk, ho, hn, ne_eq, not_true_eq_false, if_false]

theorem execWrOk_of_ok {s : State} {n : Segment} {lines : Bytes} (ho : s.outstanding = some .write)
    (hn : nextSegment s.size s.effChunk s.cur = some n) (hb : buildSegment s n = .ok lines) :
    execWrOk s = .next (enterAwaitAck (bumpSeq { s with
      outstanding := none, wire := s.wire ++ s.curLines, next := some n, nextLines := some lines })) := by
  simp only [execWrOk, ho, hn, ne_eq, not_true_eq_false, if_false]
  split
  · next hb' => cases hb'.symm.trans hb
  · next hb' => cases hb'.symm.trans hb; rfl

theorem execWrOk_of_error {s : State} {n : Segment} {f : Fault} (ho : s.outstanding = some .write)
    (hn : nextSegment s.size s.effChunk s.cur = some n) (hb : buildSegment s n = .error f) : execWrOk s = .fault f := by
  simp only [execWrOk, ho, hn, ne_eq, not_true_eq_false, if_false]
  split
  · next hb' => cases hb'.symm.trans hb; rfl
  · next hb' => cases hb'.symm.trans hb

theorem execRdTimeout_of_read {s : State} (ho : s.outstanding = some .read) :
    execRdTimeout s = .next { s with outstanding := none, engine := .retransmit } :=
  if_neg (not_not.2 ho)

/-! How a transfer ends (60_exceptions.md R251, 44_upload_engine.md R226). -/

/-- Failed is entered by `raise Failure` alone, with a cause, on the segments that stood before. -/
theorem Transition.failed_by_raiseFailure {s t : State} (h : Transition s t) (hs : s.engine ≠ .failed)
    (ht : t.engine = .failed) :
    ∃ c i u, t = raiseFailure c i u ∧ c ≠ .none ∧ u.off = s.off ∧ u.cur = s.cur ∧ u.next = s.next := by
  cases h
  case responseFailed hc => exact ⟨_, _, _, rfl, hc, rfl, rfl, rfl⟩
  case lineFailed | retriesRanOut | writeFailed | readFailed => exact ⟨_, _, _, rfl, by decide, rfl, rfl, rfl⟩
  case emitted | lineIgnored | lineCollected | messageChecked | moreNeeded | messageDiscarded | requestBuilt | dataRead =>
    exact absurd ht hs
  case advanced => split at ht <;> cases ht
  all_goals cases ht

/-- Done is entered by its own step alone. -/
theorem Transition.done_by_enterDone {s t : State} (h : Transition s t) (hs : s.engine ≠ .done) (ht : t.engine = .done) :
    ∃ u, t = enterDone u := by
  cases h
  case transferCompleted => exact ⟨_, rfl⟩
  case advanced =>
    split at ht
    · next hend => exact ⟨_, by rw [if_pos hend]⟩
    · cases ht
  case emitted | lineIgnored | lineCollected | messageChecked | moreNeeded | messageDiscarded | requestBuilt | dataRead =>
    exact absurd ht hs
  all_goals cases ht

end Sys2Proof.Machine

namespace Sys2Proof.Proofs

open Sys2Proof.Machine

/-- Settles O35: the invariant has NEXT prepared at the acknowledged offset, within the image and not empty (R214, R232), so the image
does not end there. -/
theorem advanceNeverMeetsTheEnd : Obligations.AdvanceNeverMeetsTheEnd := by
  intro s hinv hq he
  obtain ⟨n, lines, hn, hl, hack⟩ := hinv.session.advanceReady he
  obtain ⟨-, hin, hlen, -⟩ := hinv.session.nextFollows n hn
  have hlt : n.off < s.size := by omega
  have hstep : step s = _ := (step_of_advance hq he).trans (advance_of_prepared hn hl hack)
  rw [if_neg hlt.ne] at hstep
  exact ⟨n, _, hn, hack, hstep, rfl, hlt, rfl⟩

/-- Settles O36: segment 0 begins at offset 0, and every later segment carries at least one byte, so `size + 1` of them reach the end. -/
theorem segmentsTileTheImage : Obligations.SegmentsTileTheImage := by
  intro size effChunk img heff
  refine (flatMap_segmentsFrom img heff (firstSegment_inImage size) (by omega)).trans ?_
  simp [Memory.readRange, firstSegment]

/-- Settles O52: the two ends are entered by their own operations, each of which emits RESULT last. -/
theorem everyEndIsReported : Obligations.EveryEndIsReported := by
  intro s t hr h
  have htr := step_transition hr h
  constructor
  · intro hs ht
    obtain ⟨c, i, u, rfl, hc, hoff, hcur, hnext⟩ := htr.failed_by_raiseFailure hs ht
    exact ⟨by simp, rfl, hc, hoff, hcur, hnext⟩
  · intro hs ht
    obtain ⟨u, rfl⟩ := htr.done_by_enterDone hs ht
    exact ⟨by simp, rfl⟩

/-- Settles O24: whether NextSegment gives a segment, and whether its request is too long to encode, decides. -/
theorem writeDonePreparesNext : Obligations.WriteDonePreparesNext := by
  intro s ho deadline waiting n
  have hsome (hlt : s.cur.off + s.cur.len < s.size) : nextSegment s.size s.effChunk s.cur = some n :=
    nextSegment_eq_some_iff.2 ⟨hlt, rfl⟩
  refine ⟨fun hend => ?last, fun hlt hle => ?next, fun hlt hgt => ?oversized⟩
  case last => rw [exec, execWrOk_of_last ho (nextSegment_eq_none_iff.2 hend), enterAwaitAck_eq]
  case next =>
    obtain ⟨lines, hlines, hbuild⟩ := buildSegment_of_le (nextSegment_inImage (hsome hlt)) hle
    refine ⟨lines, hlines, ?_⟩
    rw [exec, execWrOk_of_ok ho (hsome hlt) hbuild, enterAwaitAck_eq]
    rfl
  case oversized =>
    exact execWrOk_of_error ho (hsome hlt) (buildSegment_of_gt (nextSegment_inImage (hsome hlt)) hgt)

/-- Settles O26. -/
theorem timeoutGoesToRetransmit : Obligations.TimeoutGoesToRetransmit := fun _ => execRdTimeout_of_read

/-- Settles O28: every output event leaves in the same way, and `OutEvent.awaits` says which answer is then awaited. -/
theorem outputEventsLeaveAtThePort : Obligations.OutputEventsLeaveAtThePort := fun bs deadline offset info code cause s =>
  ⟨exec_outEvent (.write bs) s, exec_outEvent (.read deadline) s, exec_outEvent (.progress offset) s,
    exec_outEvent (.result code cause info) s⟩

/-- Settles O33: the bound first, then the same segment's request, whose length alone can fault. -/
theorem retransmitRebuildsTheSegment : Obligations.RetransmitRebuildsTheSegment := by
  intro s hq he
  rw [step_of_retransmit hq he]
  refine ⟨fun k hk hle => ?exhausted, fun hbelow hin => ?rebuilt⟩
  case exhausted => exact retransmit_of_exhausted ((retriesExhausted_iff s).2 ⟨k, hk, hle⟩)
  case rebuilt =>
    have hr : retriesExhausted s = false := by
      refine Bool.eq_false_iff.2 fun h => ?_
      obtain ⟨k, hk, hle⟩ := (retriesExhausted_iff s).1 h
      exact hle.not_gt (hbelow k hk)
    refine ⟨fun hle => ?_, fun hgt => retransmit_of_error hr (buildSegment_of_gt hin hgt)⟩
    obtain ⟨lines, hlines, hbuild⟩ := buildSegment_of_le hin hle
    obtain ⟨-, hemits, -⟩ := hq
    refine ⟨lines, hlines, ?_⟩
    rw [retransmit_of_ok hr hbuild, hemits]
    rfl

/-- Settles O34: Done where the acknowledged offset is S, else SendAndPrepareNext. -/
theorem advanceAdoptsTheNextSegment : Obligations.AdvanceAdoptsTheNextSegment := by
  intro s n lines ack hq he hn hl hack adopted
  rw [step_of_advance hq he, advance_of_prepared hn hl hack]
  obtain ⟨-, hemits, hscan⟩ := hq
  constructor
  · intro hne
    rw [if_neg hne, enterSend, emit, hemits]
    rfl
  · intro heq
    rw [if_pos heq, enterDone, emit, hemits, ← hscan]
    rfl

/-- Settles O37. -/
theorem nextSegmentFollows : Obligations.NextSegmentFollows := fun _ _ _ =>
  ⟨nextSegment_eq_none_iff.2, fun hlt => ⟨nextSegment_eq_some_iff.2 ⟨hlt, rfl⟩, fun heff => by omega⟩⟩

end Sys2Proof.Proofs
end

section
/-! PROOFS. The endless run (44_upload_engine.md R229): without a retry bound, a device that never answers takes the engine round from
AwaitAck to AwaitAck, five steps at a time. -/

namespace Sys2Proof.Machine

/-! Runs. -/

/-- A run that goes on is a first run and the rest of it. -/
theorem run_add_next_iff {M : Host.Core} {j k : Nat} {s t : M.State} :
    M.run (j + k) s = .next t ↔ ∃ u, M.run j s = .next u ∧ M.run k u = .next t := by
  induction j generalizing s with
  | zero => simp [Host.Core.run]
  | succ j ih =>
    rw [Nat.succ_add]
    cases hs : M.step s with
    | next s' => simpa only [Host.Core.run, hs] using ih
    | fault | refused => simp [Host.Core.run, hs]

theorem run_succ_of_step {s t u : State} {k : Nat} (h : step s = .next t) (hrun : Host.Core.run Sys2Proof.core k t = .next u) :
    Host.Core.run Sys2Proof.core (k + 1) s = .next u := by
  have hstep : Sys2Proof.core.step s = .next t := h
  simpa only [Host.Core.run, hstep] using hrun

/-- A resting engine that awaits an answer takes the event at the head of the input, and no call. -/
theorem step_of_answer {s : State} {i : Instr} {rest : Bytes} (hq : quiet s) (ho : s.outstanding ≠ none)
    (he : s.engine = .sendAndPrepareNext ∨ s.engine = .awaitAck) (hd : decodeEvent (inputBytes s) = .ok (i, rest))
    (hi : outEvent? i = none) : step s = exec i { s with port := rest } := by
  obtain ⟨hr, hem, hs⟩ := hq
  obtain ⟨hp, hre, ha⟩ : s.engine ≠ .prepareFirst ∧ s.engine ≠ .retransmit ∧ s.engine ≠ .advance := by
    rcases he with he | he <;> simp [he]
  rw [step_of_resting hr hem hs hp hre ha, pendingInput_of_event (.inr (.inl ho)) (decodeEvent_ne_nil hd)]
  exact stepEvent_of_decode hd hi

/-- An emitted event leaves at the port, and its answer is then awaited. -/
theorem step_of_emitted {s : State} {e : OutEvent} {es : List OutEvent} (hr : s.resetLine = false) (he : s.emits = e :: es) :
    step s = .next { s with emits := es, out := s.out ++ [e], outstanding := e.awaits s.outstanding } := by
  rw [step_of_emits hr he, exec_outEvent]

/-! The round. -/

/-- No request that the engine builds of CUR or of the segment after it is too long to encode, whatever SEQ is. -/
def requestsFit (s : State) : Prop :=
  ∀ q : BitVec 8, (segmentMessage { s with seq := q } s.cur).length ≤ 65533 ∧
    ∀ n, nextSegment s.size s.effChunk s.cur = some n → (segmentMessage { s with seq := q } n).length ≤ 65533

theorem requestsFit.current {s : State} (h : requestsFit s) : (segmentMessage s s.cur).length ≤ 65533 := (h s.seq).1

theorem requestsFit.following {s : State} {n : Segment} (h : requestsFit s)
    (hn : nextSegment s.size s.effChunk s.cur = some n) : (segmentMessage s n).length ≤ 65533 := (h s.seq).2 n hn

/-- WR_OK answers a WRITE with AwaitAck, whether or not a segment is left to prepare; only NEXT, its lines and SEQ depend on it. -/
theorem exists_execWrOk_of_fit {s : State} (ho : s.outstanding = some .write) (hfit : requestsFit s) :
    ∃ next nextLines seq, execWrOk s = .next (enterAwaitAck { s with
      outstanding := none, wire := s.wire ++ s.curLines, next := next, nextLines := nextLines, seq := seq }) := by
  cases hn : nextSegment s.size s.effChunk s.cur with
  | none => exact ⟨none, none, s.seq, execWrOk_of_last ho hn⟩
  | some n =>
    obtain ⟨lines, -, hbuild⟩ := buildSegment_of_le (nextSegment_inImage hn) (hfit.following hn)
    exact ⟨some n, some lines.flatten, s.seq + 1, execWrOk_of_ok ho hn hbuild⟩

/-- What every state of the endless run keeps: no power-on reset, no scan, no retry bound, and what the device and the codec do; and, as
parameters, the registers that the run is about. -/
structure Cycling (retry off : Nat) (cur : Segment) (s : State) : Prop where
  running : s.resetLine = false
  scan : s.scan = .off
  standing : s.standing = [0x21, 0x10]
  unbounded : s.maxRetries = none
  inImage : s.cur.off + s.cur.len ≤ s.size
  fit : requestsFit s
  retry_eq : s.retry = retry
  off_eq : s.off = off
  cur_eq : s.cur = cur

/-- How far a round is: the engine's state, the event to be sent, the answer awaited, and the events in store. -/
structure RoundAt (engine : EngineState) (emits : List OutEvent) (outstanding : Option PortCall) (port : Bytes) (s : State) :
    Prop where
  engine_eq : s.engine = engine
  emits_eq : s.emits = emits
  outstanding_eq : s.outstanding = outstanding
  port_eq : s.port = port

section
variable {retry off : Nat} {cur : Segment} {s : State}

theorem Cycling.quiet (h : Cycling retry off cur s) (he : s.emits = []) : quiet s := ⟨h.running, he, h.scan⟩

/-- With no event in store, RD_TIMEOUT is the answer to READ (R219). -/
theorem Cycling.step_rdTimeout (h : Cycling retry off cur s) (hat : RoundAt .awaitAck [] (some .read) [] s) :
    ∃ t, step s = .next t ∧ Cycling retry off cur t ∧ RoundAt .retransmit [] none [0x10] t := by
  obtain ⟨he, hem, ho, hp⟩ := hat
  have hinput : decodeEvent (inputBytes s) = .ok (.rdTimeout, [0x10]) := by
    rw [inputBytes_eq, if_pos hp, h.standing]
    rfl
  exact ⟨_, (step_of_answer (h.quiet hem) (by simp [ho]) (.inr he) hinput rfl).trans (execRdTimeout_of_read ho),
    { h with }, rfl, hem, rfl, rfl⟩

/-- Without a bound, Retransmit builds CUR again (R224, R229). -/
theorem Cycling.step_retransmit (h : Cycling retry off cur s) (hat : RoundAt .retransmit [] none [0x10] s) :
    ∃ t, step s = .next t ∧ Cycling (retry + 1) off cur t ∧
      RoundAt .sendAndPrepareNext [.write t.curLines] none [0x10] t := by
  obtain ⟨he, hem, ho, hp⟩ := hat
  obtain ⟨lines, -, hbuild⟩ := buildSegment_of_le h.inImage h.fit.current
  have hr : retriesExhausted s = false := by simp [retriesExhausted, h.unbounded]
  exact ⟨_, (step_of_retransmit (h.quiet hem) he).trans (retransmit_of_ok hr hbuild),
    { h with retry_eq := congrArg (· + 1) h.retry_eq }, rfl, by simp [hem], ho, hp⟩

/-- What is emitted leaves, and its answer is awaited (R222, R223). -/
theorem Cycling.step_emitted {engine : EngineState} {e : OutEvent} {outstanding : Option PortCall} {port : Bytes}
    (h : Cycling retry off cur s) (hat : RoundAt engine [e] outstanding port s) :
    ∃ t, step s = .next t ∧ Cycling retry off cur t ∧ RoundAt engine [] (e.awaits outstanding) port t := by
  obtain ⟨he, hem, ho, hp⟩ := hat
  exact ⟨_, step_of_emitted h.running hem, { h with }, he, rfl, congrArg e.awaits ho, hp⟩

/-- The WR_OK left in store is the answer to WRITE (R216, R217). -/
theorem Cycling.step_wrOk (h : Cycling retry off cur s) (hat : RoundAt .sendAndPrepareNext [] (some .write) [0x10] s) :
    ∃ t, step s = .next t ∧ Cycling retry off cur t ∧ RoundAt .awaitAck [.read t.deadline] none [] t := by
  obtain ⟨he, hem, ho, hp⟩ := hat
  have hinput : decodeEvent (inputBytes s) = .ok (.wrOk, []) := by
    rw [inputBytes_eq, if_neg (by simp [hp]), hp]
    rfl
  obtain ⟨next, nextLines, seq, hexec⟩ := exists_execWrOk_of_fit (s := { s with port := [] }) ho h.fit
  exact ⟨_, (step_of_answer (h.quiet hem) (by simp [ho]) (.inl he) hinput rfl).trans hexec, { h with }, rfl,
    by simp [hem], rfl, rfl⟩

/-- One round is five steps and one more retry. -/
theorem Cycling.round (h : Cycling retry off cur s) (hat : RoundAt .awaitAck [] (some .read) [] s) :
    ∃ t, Host.Core.run Sys2Proof.core 5 s = .next t ∧ Cycling (retry + 1) off cur t ∧
      RoundAt .awaitAck [] (some .read) [] t := by
  obtain ⟨s₁, hstep₁, h₁, hat₁⟩ := h.step_rdTimeout hat
  obtain ⟨s₂, hstep₂, h₂, hat₂⟩ := h₁.step_retransmit hat₁
  obtain ⟨s₃, hstep₃, h₃, hat₃⟩ := h₂.step_emitted hat₂
  obtain ⟨s₄, hstep₄, h₄, hat₄⟩ := h₃.step_wrOk hat₃
  obtain ⟨s₅, hstep₅, h₅, hat₅⟩ := h₄.step_emitted hat₄
  have hrun : Host.Core.run Sys2Proof.core 5 s = .next s₅ :=
    run_succ_of_step hstep₁ <| run_succ_of_step hstep₂ <| run_succ_of_step hstep₃ <| run_succ_of_step hstep₄ <|
      run_succ_of_step hstep₅ rfl
  exact ⟨s₅, hrun, h₅, hat₅⟩

theorem Cycling.rounds (h : Cycling retry off cur s) (hat : RoundAt .awaitAck [] (some .read) [] s) (n : Nat) :
    ∃ t, Host.Core.run Sys2Proof.core (5 * n) s = .next t ∧ Cycling (retry + n) off cur t ∧
      RoundAt .awaitAck [] (some .read) [] t := by
  induction n with
  | zero => exact ⟨s, rfl, h, hat⟩
  | succ n ih =>
    obtain ⟨t, hrun, ht, hatt⟩ := ih
    obtain ⟨u, hround, hu, hatu⟩ := ht.round hatt
    exact ⟨u, run_add_next_iff.2 ⟨t, hrun, hround⟩, hu, hatu⟩

end

/-- The invariant puts an engine that awaits the answer to its READ at the beginning of a round (10_state.md R45). -/
theorem roundAt_of_inv {s : State} (h : Inv s) (ho : s.outstanding = some .read) (hp : s.port = []) :
    s.scan = .off ∧ RoundAt .awaitAck [] (some .read) [] s := by
  have he := h.engine_of_read ho
  have hport := h.port
  simp only [portDiscipline, he, ho, reduceCtorEq, and_false, false_or, and_true, or_false] at hport
  obtain ⟨hscan, hem⟩ := hport
  exact ⟨hscan, he, hem, ho, hp⟩

end Sys2Proof.Machine

namespace Sys2Proof.Proofs

open Sys2Proof.Machine

/-- Settles O56: every round comes back to its beginning with one more retry, and a run of `k` steps is the beginning of `k` rounds. -/
theorem endlessRetransmitIsARun : Obligations.EndlessRetransmitIsARun := by
  intro s hinv hr he ho hunbounded hsilent hfit
  obtain ⟨hport, hstanding⟩ := hsilent
  obtain ⟨hscan, hat⟩ := roundAt_of_inv hinv ho hport
  have hcycling : Cycling s.retry s.off s.cur s :=
    ⟨hr, hscan, hstanding, hunbounded, hinv.session.curInImage, hfit, rfl, rfl, rfl⟩
  constructor
  · intro k
    obtain ⟨t, hrun, -⟩ := hcycling.rounds hat k
    rw [show 5 * k = k + 4 * k by omega] at hrun
    obtain ⟨u, hu, -⟩ := run_add_next_iff.1 hrun
    exact ⟨u, hu⟩
  · intro n
    obtain ⟨t, hrun, ht, hatt⟩ := hcycling.rounds hat n
    exact ⟨t, hrun, hatt.engine_eq, hatt.outstanding_eq, ht.retry_eq, ht.off_eq, ht.cur_eq⟩

end Sys2Proof.Proofs
end

section
/-! PROOFS. The end of a transfer (60_exceptions.md R265): what a machine in Done or Failed can still do. -/

namespace Sys2Proof

open Sys2Proof.Machine

/-- An ended transfer awaits no answer and scans no line (10_state.md R45, 60_exceptions.md R251). -/
theorem Inv.port_of_ended {s : State} (h : Inv s) (he : s.engine = .done ∨ s.engine = .failed) :
    s.outstanding = none ∧ s.scan = .off := by
  have hport := h.port
  rcases he with he | he
  all_goals
    simp only [portDiscipline, he] at hport
    obtain ⟨ho, hscan, -⟩ := hport
    exact ⟨ho, hscan⟩

/-- What can happen after a transfer's end: an event emitted before it leaves, a request-builder call runs, or a START is consumed.
Received lines and messages and the answers of the port belong to a transfer, as do the engine's own transitions. -/
theorem Machine.Transition.ended_cases {s t : State} (htr : Transition s t) (h : Inv s)
    (he : s.engine = .done ∨ s.engine = .failed) :
    (∃ e es, s.emits = e :: es ∧
      t = { s with emits := es, out := s.out ++ [e], outstanding := e.awaits s.outstanding }) ∨
    (∃ rest m, t = { s with calls := rest, seq := s.seq + 1, built := some m }) ∨
    (t.engine = .prepareFirst ∧ ∃ size img chunk tFirst tNext crcInit retries strict rest,
      decodeEvent (inputBytes s) = .ok (.start size img chunk tFirst tNext crcInit retries strict, rest)) := by
  obtain ⟨hout, hoff⟩ := h.port_of_ended he
  cases htr with
  | emitted hem => exact .inl ⟨_, _, hem, rfl⟩
  | requestBuilt => exact .inr (.inl ⟨_, _, rfl⟩)
  | started _ _ hd => exact .inr (.inr ⟨rfl, _, _, _, _, _, _, _, _, _, hd⟩)
  | lineIgnored hl | lineCollected hl | messageChecked hl | lineFailed hl => simp [hl.scan] at hoff
  | moreNeeded _ hs => simp [hs] at hoff
  | messageDiscarded hm | responseFailed hm | transferCompleted hm | offsetMismatched hm | segmentAcknowledged hm =>
    simp [h.engine_of_message hm] at he
  | firstPrepared _ heng | retriesRanOut _ heng | segmentRebuilt _ heng | advanced _ heng => simp [heng] at he
  | lastWritten _ ho | nextPrepared _ ho | writeFailed _ ho | dataRead _ ho | readTimedOut _ ho | readFailed _ ho =>
    simp [ho] at hout

end Sys2Proof

namespace Sys2Proof.Proofs

open Sys2Proof.Machine

/-- Settles O51: an emitted event that leaves and a request-builder call write none of the listed registers. -/
theorem terminalStatesAreLeftByStartOnly : Obligations.TerminalStatesAreLeftByStartOnly := by
  intro s t hinv hr he h
  rcases (step_transition hr h).ended_cases hinv he with ⟨e, es, -, rfl⟩ | ⟨rest, m, rfl⟩ | hstart
  · exact .inl (by simp)
  · exact .inl (by simp)
  · exact .inr hstart

end Sys2Proof.Proofs
end

section
/-! PROOFS. What START and PrepareFirst leave (70_reset_and_hazards.md R281): the request of segment 0 of a freshly loaded image. -/

namespace Sys2Proof.Machine

/-- The first request of a loaded image carries at most its first 32 bytes (43_message_codec.md R184, 44_upload_engine.md R212). -/
theorem uploadFields_firstSegment_of_loaded {s : State} {img : Bytes} (himg : s.img = Memory.ofBytes img)
    (hlen : img.length = s.size) : uploadFields s (firstSegment s.size) = seg0Fields s.size (img.take 32) := by
  have hdata : Memory.readRange s.img 0 (min 32 s.size) = img.take 32 := by
    rw [himg, Memory.readRange_ofBytes (by omega), ← hlen, List.drop_zero, ← List.take_eq_take_min]
  exact congrArg (seg0Fields s.size) hdata

/-- The length of that request, built with the current SEQ. -/
theorem length_segmentMessage_firstSegment_of_loaded {s : State} {img : Bytes} (himg : s.img = Memory.ofBytes img)
    (hlen : img.length = s.size) : (segmentMessage s (firstSegment s.size)).length =
      (requestPayload s.codec s.seq 1 1 (seg0Fields s.size (img.take 32))).length + 8 := by
  rw [segmentMessage, uploadFields_firstSegment_of_loaded himg hlen, length_requestMessage]

end Sys2Proof.Machine

namespace Sys2Proof.Proofs

open Sys2Proof.Machine

/-- Settles O43: START leaves the loaded session of O22, and PrepareFirst, as O32 has it, builds the first request of its image. -/
theorem startOpensASession : Obligations.StartOpensASession := by
  intro size img chunk tFirst tNext crcInit retries strict s he hlen hlo hhi hr hem hfit
  have hstart := startLoadsAndResets size img chunk tFirst tNext crcInit retries strict s he hlen hlo hhi
  -- `t` names the state that START leaves.
  generalize ht : State.mk .. = t at hstart
  have hquiet : quiet t := by subst ht; exact ⟨hr, hem, rfl⟩
  have hengine : t.engine = .prepareFirst := by subst ht; rfl
  have hshort : (segmentMessage t (firstSegment t.size)).length ≤ 65533 := by
    subst ht
    rw [length_segmentMessage_firstSegment_of_loaded rfl hlen]
    exact Nat.add_le_add_right hfit 8
  obtain ⟨hbuilds, -⟩ := prepareFirstBuildsSegmentZero t hquiet hengine
  obtain ⟨lines, -, hstep⟩ := hbuilds hshort
  exact ⟨t, _, hstart, hstep, by simp [← ht]⟩

end Sys2Proof.Proofs
end
